-- ==== Sys2Proof/Word.lean ====
section
/-! DEFINITION. The characters of the link and their plainest arithmetic. -/

namespace Sys2Proof

/-- The eight value bits of a link character (R155). -/
abbrev Byte := BitVec 8

/-- The low eight bits of a number, as a character. -/
def byteOf (n : Nat) : Byte := BitVec.ofNat 8 n

/-- The sum of some characters modulo 256 (R159, R164). -/
def sum8 : List Byte → Byte
  | [] => 0
  | b :: bs => b + sum8 bs

end Sys2Proof
end

