-- ==== Sys2Proof/Syntax.lean ====
section
/-! DEFINITION. The commands of the part: one constructor for each row of spec/opcode_table.json, with
the operands the rules give it. -/

namespace Sys2Proof

/-- The eight channels (00 Table 2). -/
inductive Channel where
  | b1 | b2 | b3 | b4 | z1 | z2 | ov | gr
  deriving DecidableEq, Repr

/-- The six heaters (00 Table 3). -/
inductive Heater where
  | hz1 | hz2 | htop | hbase | hring | hgrill
  deriving DecidableEq, Repr

/-- The four burners (00 section 2.3). -/
inductive Burner where
  | n1 | n2 | n3 | n4
  deriving DecidableEq, Repr

/-- The position of the oven door, and the level the DOOR input shows (R92). -/
inductive DoorPos where
  | shut | opened
  deriving DecidableEq, Repr

/-- The position of a burner knob, and the level a KN input shows (R103). -/
inductive KnobPos where
  | closed | opened
  deriving DecidableEq, Repr

/-- The inputs that a power-on reset reads directly (R154, R175): four knobs, the door and the two
address straps. -/
structure ResetPins where
  kn1 : KnobPos
  kn2 : KnobPos
  kn3 : KnobPos
  kn4 : KnobPos
  door : DoorPos
  ads1 : Bool
  ads0 : Bool
  deriving DecidableEq, Repr

/-- The commands. A request command is the arrival of one whole well-formed request frame at the unit
address, with its TAG and the characters of its operands (log 1). A timer command is the completion of
that timer (log 2). -/
inductive Instr where
  -- Reset
  | powerOnReset (pins : ResetPins)
  -- Characters, transmitter and link supervision
  | addressCharacter (a : Byte)
  | dataCharacter (d : Byte)
  | framingError
  | gapTimeout
  | replyStart
  | replySent
  | linkSupervisionExpiry
  -- Requests: configuration and the part
  | unknownKindRequest (kind tag : Byte) (body : List Byte)
  | status (tag : Byte)
  | readConfig (tag : Byte)
  | setBudget (tag : Byte) (budget : BitVec 16)
  | setHeater (tag heater installed : Byte) (rating : BitVec 16) (rank offset : Byte)
  | setOvenTuning (tag band overshoot : Byte)
  | setLink (tag supervision spacing : Byte)
  | closeConfig (tag : Byte)
  | restart (tag : Byte)
  -- Requests: plan loading
  | planBegin (tag channel count : Byte)
  | planStage (tag index : Byte) (record : List Byte)
  | planCommit (tag : Byte)
  | loadIdleTimeout
  -- Requests: channels
  | start (tag channel : Byte)
  | pause (tag channel : Byte)
  | resume (tag channel : Byte)
  | skip (tag channel : Byte)
  | stop (tag channel : Byte)
  | clear (tag channel : Byte)
  | adjustTime (tag channel : Byte) (delta : BitVec 24)
  | adjustLevel (tag channel : Byte) (level : BitVec 24)
  | adjustSetpoint (tag channel : Byte) (setpoint : BitVec 24)
  | quickLevel (tag channel level : Byte)
  | stopAll (broadcast : Bool) (tag : Byte)
  -- Requests: reading and notices
  | readChannel (tag channel : Byte)
  | readStage (tag channel index : Byte)
  | readStageNext (tag : Byte)
  | readFrame (tag heater : Byte)
  | fetchNotices (tag maximum rearm : Byte)
  | armAttention (tag : Byte)
  -- The plan runner's seconds
  | channelSecond (c : Channel)
  | stageElapsed (c : Channel)
  | pauseTimerSecond (c : Channel)
  | pauseExpiry (c : Channel)
  -- The power frame
  | slotBoundary
  | frameBoundary
  -- The oven
  | probeReading (reading : Int)
  | doorInputChange (level : DoorPos)
  | doorOpened
  | doorClosed
  -- The burners
  | knobInputChange (n : Burner) (level : KnobPos)
  | knobOpened (n : Burner)
  | knobClosed (n : Burner)
  | restTimerExpiry
  | flameSenseChange (n : Burner) (shown : Bool)
  | flameProven (n : Burner)
  | attemptFailed (n : Burner)
  | retryGapExpiry (n : Burner)
  | flameLost (n : Burner)
  | holdTailEnd
  -- The output stage
  | loadSenseChange (h : Heater) (present : Bool)
  | settlingEnd (h : Heater)
  | persistenceRunExpiry (h : Heater) (also : List Heater)
  | contactorProvingExpiry
  -- The attention line
  | spacingTimerExpiry
  deriving DecidableEq, Repr

end Sys2Proof
end

