-- ==== Sys2Proof/Config.lean ====
section
/-! DEFINITION. The free values: what the spec leaves the part to choose afresh each time.
Each is an uninterpreted constant applied to the number of free values drawn so far, so that no proof
can rest on a value. -/

namespace Sys2Proof

/-- The part's choice of a reply delay (R163): the delay is 2 ms plus this number modulo 24. Log 6. -/
opaque Config.freeReplyDelay : Nat → Nat

/-- The part's choice among its own events that fall due at the same moment (R29, R67 and every rule
on coinciding events allow either order). Log 5. -/
opaque Config.freeOrder : Nat → Nat

end Sys2Proof
end

