-- ==== Sys2Proof/Machine/State.lean ====
section
/-! DEFINITION. The state of the part as plain data, one structure for each of its blocks, with the
values of every field after a power-on reset. -/

namespace Sys2Proof.Machine

open Sys2Proof

/-! ## Families of like things -/

/-- One value for each channel. -/
structure PerChannel (α : Type) where
  b1 : α
  b2 : α
  b3 : α
  b4 : α
  z1 : α
  z2 : α
  ov : α
  gr : α
  deriving DecidableEq, Repr

/-- One value for each heater. -/
structure PerHeater (α : Type) where
  hz1 : α
  hz2 : α
  htop : α
  hbase : α
  hring : α
  hgrill : α
  deriving DecidableEq, Repr

/-- One value for each burner. -/
structure PerBurner (α : Type) where
  n1 : α
  n2 : α
  n3 : α
  n4 : α
  deriving DecidableEq, Repr

/-- The three oven heaters. -/
inductive OvenHeater where
  | top | base | ring
  deriving DecidableEq, Repr

/-- One value for each oven heater. -/
structure PerOven (α : Type) where
  top : α
  base : α
  ring : α
  deriving DecidableEq, Repr

/-- One value for each slot of the power frame. -/
abbrev Slots (α : Type) := Vector α 32

def PerChannel.get {α : Type} (f : PerChannel α) : Channel → α
  | .b1 => f.b1
  | .b2 => f.b2
  | .b3 => f.b3
  | .b4 => f.b4
  | .z1 => f.z1
  | .z2 => f.z2
  | .ov => f.ov
  | .gr => f.gr

def PerChannel.set {α : Type} (f : PerChannel α) (c : Channel) (x : α) : PerChannel α :=
  match c with
  | .b1 => { f with b1 := x }
  | .b2 => { f with b2 := x }
  | .b3 => { f with b3 := x }
  | .b4 => { f with b4 := x }
  | .z1 => { f with z1 := x }
  | .z2 => { f with z2 := x }
  | .ov => { f with ov := x }
  | .gr => { f with gr := x }

def PerHeater.get {α : Type} (f : PerHeater α) : Heater → α
  | .hz1 => f.hz1
  | .hz2 => f.hz2
  | .htop => f.htop
  | .hbase => f.hbase
  | .hring => f.hring
  | .hgrill => f.hgrill

def PerHeater.set {α : Type} (f : PerHeater α) (h : Heater) (x : α) : PerHeater α :=
  match h with
  | .hz1 => { f with hz1 := x }
  | .hz2 => { f with hz2 := x }
  | .htop => { f with htop := x }
  | .hbase => { f with hbase := x }
  | .hring => { f with hring := x }
  | .hgrill => { f with hgrill := x }

/-- The value of every heater passed through a function that also sees the heater. -/
def PerHeater.map {α β : Type} (f : PerHeater α) (g : Heater → α → β) : PerHeater β :=
  { hz1 := g .hz1 f.hz1, hz2 := g .hz2 f.hz2, htop := g .htop f.htop, hbase := g .hbase f.hbase,
    hring := g .hring f.hring, hgrill := g .hgrill f.hgrill }

def PerBurner.get {α : Type} (f : PerBurner α) : Burner → α
  | .n1 => f.n1
  | .n2 => f.n2
  | .n3 => f.n3
  | .n4 => f.n4

def PerBurner.set {α : Type} (f : PerBurner α) (n : Burner) (x : α) : PerBurner α :=
  match n with
  | .n1 => { f with n1 := x }
  | .n2 => { f with n2 := x }
  | .n3 => { f with n3 := x }
  | .n4 => { f with n4 := x }

/-- The value of every burner passed through a function that also sees the burner. -/
def PerBurner.map {α β : Type} (f : PerBurner α) (g : Burner → α → β) : PerBurner β :=
  { n1 := g .n1 f.n1, n2 := g .n2 f.n2, n3 := g .n3 f.n3, n4 := g .n4 f.n4 }

/-- The value of every channel passed through a function that also sees the channel. -/
def PerChannel.map {α β : Type} (f : PerChannel α) (g : Channel → α → β) : PerChannel β :=
  { b1 := g .b1 f.b1, b2 := g .b2 f.b2, b3 := g .b3 f.b3, b4 := g .b4 f.b4, z1 := g .z1 f.z1,
    z2 := g .z2 f.z2, ov := g .ov f.ov, gr := g .gr f.gr }

def PerOven.get {α : Type} (f : PerOven α) : OvenHeater → α
  | .top => f.top
  | .base => f.base
  | .ring => f.ring

def PerOven.set {α : Type} (f : PerOven α) (h : OvenHeater) (x : α) : PerOven α :=
  match h with
  | .top => { f with top := x }
  | .base => { f with base := x }
  | .ring => { f with ring := x }

def PerChannel.const {α : Type} (x : α) : PerChannel α := ⟨x, x, x, x, x, x, x, x⟩
def PerHeater.const {α : Type} (x : α) : PerHeater α := ⟨x, x, x, x, x, x⟩
def PerBurner.const {α : Type} (x : α) : PerBurner α := ⟨x, x, x, x⟩
def PerOven.const {α : Type} (x : α) : PerOven α := ⟨x, x, x⟩

/-! ## The input lines -/

/-- The levels the input lines show now (00 Table 6). -/
structure Pins where
  prb : Int
  door : DoorPos
  knob : PerBurner KnobPos
  flame : PerBurner Bool
  loadSense : PerHeater Bool
  ads1 : Bool
  ads0 : Bool
  deriving DecidableEq, Repr

/-! ## LNK (R154) -/

/-- The address a frame was sent to: the unit address or 0x3F (R156). -/
inductive FrameAddr where
  | unit | broadcast
  deriving DecidableEq, Repr

/-- A request as a slot holds it (R154). -/
structure Request where
  addr : FrameAddr
  kind : Byte
  tag : Byte
  body : List Byte
  deriving DecidableEq, Repr

/-- A reply as RQH builds it (R164): its address character, LEN and SUM follow from these (replyFrame). -/
structure Reply where
  kind : Byte
  tag : Byte
  linkStatus : Byte
  body : List Byte
  deriving DecidableEq, Repr

/-- The frame assembler with its frame buffer, oldest character first (R154, R157). -/
inductive Assembler where
  | idle
  | assembling (addr : FrameAddr) (received : List Byte)
  | ignoring
  deriving DecidableEq, Repr

/-- The reply transmitter (R163): the milliseconds left of the delay, or of the sending. -/
inductive Transmitter where
  | idle
  | delay (msLeft : Nat)
  | sending (msLeft : Nat)
  deriving DecidableEq, Repr

/-- The link interface (Table 8-1). A timer is none while stopped. -/
structure Lnk where
  unitAddress : Byte
  assembler : Assembler
  /-- milliseconds run since the last character of the frame being assembled -/
  gap : Option Nat
  executing : Option Request
  waiting : Option Request
  transmitter : Transmitter
  /-- the reply now due or being sent -/
  reply : Option Reply
  dropped : Bool
  linkLostSeen : Bool
  /-- milliseconds left -/
  supervision : Option Nat
  deriving DecidableEq, Repr

/-! ## Stage records, PST (R3, R5, R6, R8) -/

/-- The oven modes, codes 0 to 5 (Table 4-3). -/
inductive Mode where
  | conventional | fanRing | fanConventional | base | top | defrost
  deriving DecidableEq, Repr

/-- The kind of a stage with its kind-dependent part (Table 1-4). -/
inductive StageKind where
  | level (level : Nat)
  | ramp (startLevel endLevel segment : Nat)
  | wait
  | bake (mode : Mode) (setpoint : Nat)
  | flame
  deriving DecidableEq, Repr

/-- A stage record as loaded (R3, R4); duration 0 is untimed. -/
structure StageSpec where
  kind : StageKind
  notify : Bool
  cleanOnly : Bool
  endOnTarget : Bool
  preheat : Bool
  duration : Nat
  deriving DecidableEq, Repr

/-- Stage end causes, codes 0 to 4 (Table 1-2). -/
inductive EndCause where
  | none | elapsed | target | cut | flushed
  deriving DecidableEq, Repr

/-- Progress marks (R5). -/
inductive Mark where
  | pending | current | ended (cause : EndCause) | flushed
  deriving DecidableEq, Repr

/-- A pool record held by a plan (R5, R6). -/
structure PoolRecord where
  spec : StageSpec
  mark : Mark
  targetReached : Bool
  deriving DecidableEq, Repr

/-- The open load context (R8, R12). The next expected index is the number of staged records. -/
structure LoadContext where
  target : Channel
  expected : Nat
  staged : List StageSpec
  /-- milliseconds left of the idle timer; none when LOCKED has stopped it (R139) -/
  idle : Option Nat
  deriving DecidableEq, Repr

/-- The plan store: the number of free pool records and the load context. The owned records stand in
the channels' plans (R6, log 8). -/
structure Pst where
  free : Nat
  load : Option LoadContext
  deriving DecidableEq, Repr

/-! ## PLR (R1) -/

inductive ChannelState where
  | empty | ready | running | paused | done | halted
  deriving DecidableEq, Repr

inductive HaltCause where
  | none | element | supply | probe
  deriving DecidableEq, Repr

inductive PlanEnd where
  | none | complete | pauseExpired
  deriving DecidableEq, Repr

/-- The remaining time of a stage: whole seconds, or untimed (R1, R37). -/
inductive Remaining where
  | timed (seconds : Nat)
  | untimed
  deriving DecidableEq, Repr

/-- A running pause timer: seconds left, and milliseconds run of the present second (R36). -/
structure PauseTimer where
  left : Nat
  phase : Nat
  deriving DecidableEq, Repr

/-- The channel record (Table 1-1), with the plan end cause of R35, the segment count of R39 and the
channel level of R38. The stage count is the plan's length. -/
structure ChannelRec where
  state : ChannelState
  plan : List PoolRecord
  stageIndex : Nat
  segIndex : Nat
  segCount : Nat
  remaining : Remaining
  /-- milliseconds run of the present second -/
  secondTimer : Option Nat
  pauseTimer : Option PauseTimer
  lastEnd : EndCause
  haltCause : HaltCause
  planEnd : PlanEnd
  level : Nat
  deriving DecidableEq, Repr

/-- The channel record after a reset (Table 1-1). -/
def ChannelRec.reset : ChannelRec :=
  { state := .empty, plan := [], stageIndex := 0, segIndex := 0, segCount := 0,
    remaining := .timed 0, secondTimer := none, pauseTimer := none, lastEnd := .none,
    haltCause := .none, planEnd := .none, level := 0 }

/-- The plan runner, with the read cursor (R27). -/
structure Plr where
  chans : PerChannel ChannelRec
  cursor : Option (Channel × Nat)
  deriving DecidableEq, Repr

/-! ## PFS (R51) -/

inductive SchedState where
  | stopped | starting | running
  deriving DecidableEq, Repr

inductive HoldCause where
  | none | failed | supplyOff
  deriving DecidableEq, Repr

/-- The heater record of the scheduler (Table 3-1). Its relay command is also the command last handed
to OUT (R71, R126). -/
structure HeaterFrame where
  requested : Nat
  frame : Nat
  placed : Slots Bool
  granted : Nat
  starve : Nat
  promoted : Bool
  late : Bool
  hold : HoldCause
  relay : Bool
  deriving DecidableEq, Repr

def HeaterFrame.reset : HeaterFrame :=
  { requested := 0, frame := 0, placed := Vector.replicate 32 false, granted := 0, starve := 0,
    promoted := false, late := false, hold := .none, relay := false }

/-- The power frame scheduler (Table 3-1). -/
structure Pfs where
  sched : SchedState
  frameNumber : Nat
  slot : Fin 32
  capacity : Slots Nat
  heaters : PerHeater HeaterFrame
  /-- milliseconds left to the next slot boundary (R52) -/
  slotTimer : Option Nat
  deriving DecidableEq, Repr

/-! ## OVR (R76) -/

inductive OvenContext where
  | none | wait | bake
  deriving DecidableEq, Repr

inductive ElementSource where
  | mode | boost
  deriving DecidableEq, Repr

/-- The oven regulator (Table 4-1). The filtered temperature is computed from the buffer (R78). -/
structure Ovr where
  /-- milliseconds left to the next reading -/
  probeTimer : Option Nat
  buffer : List Nat
  errorCounter : Nat
  fault : Bool
  context : OvenContext
  mode : Mode
  setpoint : Nat
  source : ElementSource
  boostEndPending : Bool
  active : PerOven Bool
  fanMark : Bool
  handed : PerOven Nat
  doorState : DoorPos
  /-- milliseconds for which DOOR has differed from the door state -/
  doorDebounce : Option Nat
  ovenFan : Bool
  lamp : Bool
  coolingFan : Bool
  /-- the model's own mark: a relay command going off has put the cooling fan off in this moment (R99,
  log 35) -/
  fanJustOff : Bool
  deriving DecidableEq, Repr

/-! ## BSV (R100, R101) -/

inductive BurnerState where
  | off | queued | igniting | burning | retryGap | lockout | waitClose
  deriving DecidableEq, Repr

/-- The flame-loss timer with its run in milliseconds (R114). -/
inductive FlameLoss where
  | stopped
  | running (run : Nat)
  | frozen (run : Nat)
  deriving DecidableEq, Repr

/-- The hold window (R116), with the milliseconds left of its tail. -/
inductive HoldWindow where
  | closed
  | run
  | tail (msLeft : Nat)
  deriving DecidableEq, Repr

/-- The burner record (Table 5-1), with the gas permit as BSV records it (R123). -/
structure BurnerRec where
  state : BurnerState
  knob : KnobPos
  debounce : Option Nat
  attempts : Nat
  losses : Nat
  /-- milliseconds left of the attempt -/
  attemptTimer : Option Nat
  /-- milliseconds of unbroken flame in the attempt -/
  proving : Option Nat
  /-- milliseconds left of the retry gap -/
  gap : Option Nat
  flameLoss : FlameLoss
  permit : Bool
  deriving DecidableEq, Repr

/-- The burner supervisor (Table 5-3). -/
structure Bsv where
  burners : PerBurner BurnerRec
  queue : List Burner
  owner : Option Burner
  /-- milliseconds left of the generator's rest -/
  rest : Option Nat
  hold : HoldWindow
  deriving DecidableEq, Repr

/-! ## OUT (R126) -/

inductive CheckState where
  | idle
  | settling (msLeft : Nat)
  | watching
  deriving DecidableEq, Repr

inductive Contactor where
  | opened | closed
  deriving DecidableEq, Repr

/-- The heater record of the output stage (Table 6-1). -/
structure HeaterOut where
  drive : Bool
  check : CheckState
  run : Nat
  failed : Bool
  welded : Bool
  deriving DecidableEq, Repr

/-- The output stage (Table 6-2). -/
structure OutStage where
  heaters : PerHeater HeaterOut
  contactor : Contactor
  supplyOff : Bool
  check : Bool
  /-- milliseconds left of the proving timer -/
  proving : Option Nat
  locked : Bool
  deriving DecidableEq, Repr

/-! ## NTQ (R143, R144) -/

inductive NoticeKind where
  | stageEnd | planEnd | channelHalted | target | burner | heater | supplyOff | probe | linkLost
  deriving DecidableEq, Repr

structure Notice where
  kind : NoticeKind
  subject : Nat
  detail1 : Nat
  detail2 : Nat
  deriving DecidableEq, Repr

/-- The notice queue, oldest first, and the attention line (Table 7-2). -/
structure Ntq where
  queue : List Notice
  overflow : Bool
  armed : Bool
  /-- milliseconds left of the spacing interval -/
  spacing : Option Nat
  attn : Bool
  frozen : Bool
  deriving DecidableEq, Repr

/-! ## CFG (R173) -/

inductive PartState where
  | configuring | operating | locked
  deriving DecidableEq, Repr

inductive ResetCause where
  | powerOn | requested
  deriving DecidableEq, Repr

structure HeaterCfg where
  installed : Bool
  rating : Nat
  rank : Nat
  offset : Nat
  deriving DecidableEq, Repr

/-- The configuration block (Table 9-1); spacing is in milliseconds. -/
structure Cfg where
  part : PartState
  resetCause : ResetCause
  restarted : Bool
  budget : Option Nat
  heaters : PerHeater HeaterCfg
  band : Nat
  overshoot : Nat
  supervision : Nat
  spacing : Nat
  absent : PerChannel Bool
  deriving DecidableEq, Repr

/-! ## The whole part -/

/-- The state of the part: its input lines, its blocks, how many free values have been drawn (the
model's own count, log 5 and log 6) and the commands that wait, first in first out. -/
structure State where
  pins : Pins
  lnk : Lnk
  cfg : Cfg
  pst : Pst
  plr : Plr
  pfs : Pfs
  ovr : Ovr
  bsv : Bsv
  out : OutStage
  ntq : Ntq
  drawn : Nat
  pending : List Instr
  deriving DecidableEq, Repr

/-- No command makes the part stop: every fault the spec names is an effect on the state. -/
inductive Fault where
  deriving DecidableEq, Repr

/-- The model's refusals. -/
inductive Refusal where
  /-- Raised by exec for a command whose meaning is not written yet; no arm raises it. Safe. -/
  | notModelled (mnemonic : String)
  deriving DecidableEq, Repr

/-- The machine's outcomes. -/
abbrev Result := Host.Outcome State Fault Refusal

/-! ## Updates of one block -/

def State.withPins (s : State) (x : Pins) : State := { s with pins := x }
def State.withLnk (s : State) (x : Lnk) : State := { s with lnk := x }
def State.withCfg (s : State) (x : Cfg) : State := { s with cfg := x }
def State.withPst (s : State) (x : Pst) : State := { s with pst := x }
def State.withPlr (s : State) (x : Plr) : State := { s with plr := x }
def State.withPfs (s : State) (x : Pfs) : State := { s with pfs := x }
def State.withOvr (s : State) (x : Ovr) : State := { s with ovr := x }
def State.withBsv (s : State) (x : Bsv) : State := { s with bsv := x }
def State.withOut (s : State) (x : OutStage) : State := { s with out := x }
def State.withNtq (s : State) (x : Ntq) : State := { s with ntq := x }
def State.withDrawn (s : State) (x : Nat) : State := { s with drawn := x }
def State.withPending (s : State) (x : List Instr) : State := { s with pending := x }

/-- The record of one channel. -/
def State.chan (s : State) (c : Channel) : ChannelRec := s.plr.chans.get c

def State.setChan (s : State) (c : Channel) (r : ChannelRec) : State :=
  s.withPlr { s.plr with chans := s.plr.chans.set c r }

/-- The scheduler's record of one heater. -/
def State.heater (s : State) (h : Heater) : HeaterFrame := s.pfs.heaters.get h

def State.setHeater (s : State) (h : Heater) (r : HeaterFrame) : State :=
  s.withPfs { s.pfs with heaters := s.pfs.heaters.set h r }

/-- The output stage's record of one heater. -/
def State.heaterOut (s : State) (h : Heater) : HeaterOut := s.out.heaters.get h

def State.setHeaterOut (s : State) (h : Heater) (r : HeaterOut) : State :=
  s.withOut { s.out with heaters := s.out.heaters.set h r }

/-- The record of one burner. -/
def State.burner (s : State) (n : Burner) : BurnerRec := s.bsv.burners.get n

def State.setBurner (s : State) (n : Burner) (r : BurnerRec) : State :=
  s.withBsv { s.bsv with burners := s.bsv.burners.set n r }

/-- The installation record of one heater. -/
def State.install (s : State) (h : Heater) : HeaterCfg := s.cfg.heaters.get h

/-! ## The values after a reset -/

/-- The link interface after a reset (Table 8-1), with the unit address read from the straps. -/
def Lnk.reset (address : Byte) : Lnk :=
  { unitAddress := address, assembler := .idle, gap := none, executing := none, waiting := none,
    transmitter := .idle, reply := none, dropped := false, linkLostSeen := false,
    supervision := none }

/-- The configuration block after a reset (Table 9-1). -/
def Cfg.reset (cause : ResetCause) : Cfg :=
  { part := .configuring, resetCause := cause, restarted := true, budget := none,
    heaters := PerHeater.const { installed := false, rating := 0, rank := 0, offset := 0 },
    band := 16, overshoot := 20, supervision := 8, spacing := 500,
    absent := PerChannel.const false }

/-- The plan store after a reset (R6, R8). -/
def Pst.reset : Pst := { free := 40, load := none }

/-- The plan runner after a reset (R1, R27). -/
def Plr.reset : Plr := { chans := PerChannel.const ChannelRec.reset, cursor := none }

/-- The scheduler after a reset (Table 3-1). -/
def Pfs.reset : Pfs :=
  { sched := .stopped, frameNumber := 0, slot := 0, capacity := Vector.replicate 32 0,
    heaters := PerHeater.const HeaterFrame.reset, slotTimer := none }

/-- The oven regulator after a reset (Table 4-1), with the door as DOOR shows it. -/
def Ovr.reset (door : DoorPos) : Ovr :=
  { probeTimer := some 1000, buffer := [], errorCounter := 0, fault := false, context := .none,
    mode := .conventional, setpoint := 30, source := .mode, boostEndPending := false,
    active := PerOven.const false, fanMark := false, handed := PerOven.const 0, doorState := door,
    doorDebounce := none, ovenFan := false, lamp := decide (door = .opened), coolingFan := false,
    fanJustOff := false }

/-- A burner after a reset (Table 5-1), with the knob as its input shows it. -/
def BurnerRec.reset (knob : KnobPos) : BurnerRec :=
  { state := match knob with
      | .opened => .waitClose
      | .closed => .off,
    knob := knob, debounce := none, attempts := 0, losses := 0, attemptTimer := none,
    proving := none, gap := none, flameLoss := .stopped, permit := true }

/-- The burner supervisor after a reset (Tables 5-1 and 5-3). -/
def Bsv.reset (knobs : PerBurner KnobPos) : Bsv :=
  { burners := ⟨.reset knobs.n1, .reset knobs.n2, .reset knobs.n3, .reset knobs.n4⟩,
    queue := [], owner := none, rest := none, hold := .closed }

/-- The output stage after a reset (Tables 6-1 and 6-2). -/
def OutStage.reset : OutStage :=
  { heaters := PerHeater.const
      { drive := false, check := .idle, run := 0, failed := false, welded := false },
    contactor := .opened, supplyOff := false, check := false, proving := none, locked := false }

/-- The notice queue after a reset (Table 7-2). -/
def Ntq.reset : Ntq :=
  { queue := [], overflow := false, armed := true, spacing := none, attn := false, frozen := false }

/-- The input lines of State.reset: every knob closed, the door shut, no flame, no load voltage, both
straps 0, the probe at 0 degrees. DESIGN CHOICE, unsafe (log 9). -/
def Pins.reset : Pins :=
  { prb := 0, door := .shut, knob := PerBurner.const .closed, flame := PerBurner.const false,
    loadSense := PerHeater.const false, ads1 := false, ads0 := false }

/-- The part right after a power-on reset with the input lines of Pins.reset (R175). -/
def State.reset : State :=
  { pins := Pins.reset, lnk := Lnk.reset 0x30, cfg := Cfg.reset .powerOn, pst := Pst.reset,
    plr := Plr.reset, pfs := Pfs.reset, ovr := Ovr.reset .shut,
    bsv := Bsv.reset (PerBurner.const .closed), out := OutStage.reset, ntq := Ntq.reset, drawn := 0,
    pending := [] }

end Sys2Proof.Machine
end

