-- ==== Sys2Proof/Machine/Operands.lean ====
section
/-! DEFINITION. The encoding of operands and reply fields (R172), the codes of names, and the layout of
stage records (Table 8-11) and notices (Table 8-12). -/

namespace Sys2Proof.Machine

open Sys2Proof

/-! ## Lists of the named things, in code order -/

def allChannels : List Channel := [.b1, .b2, .b3, .b4, .z1, .z2, .ov, .gr]
def allHeaters : List Heater := [.hz1, .hz2, .htop, .hbase, .hring, .hgrill]
def allBurners : List Burner := [.n1, .n2, .n3, .n4]
def ovenHeaters : List OvenHeater := [.top, .base, .ring]

/-! ## Codes -/

/-- Channel codes (00 Table 2). -/
def channelCode : Channel → Nat
  | .b1 => 0 | .b2 => 1 | .b3 => 2 | .b4 => 3 | .z1 => 4 | .z2 => 5 | .ov => 6 | .gr => 7

/-- The channel of a code, none for 8 or more. -/
def channelOf (code : Nat) : Option Channel := allChannels[code]?

/-- Heater codes (00 Table 3). -/
def heaterCode : Heater → Nat
  | .hz1 => 0 | .hz2 => 1 | .htop => 2 | .hbase => 3 | .hring => 4 | .hgrill => 5

/-- The heater of a code, none for 6 or more. -/
def heaterOf (code : Nat) : Option Heater := allHeaters[code]?

/-- Burner numbers 1 to 4 (00 section 2.3). -/
def burnerNumber : Burner → Nat
  | .n1 => 1 | .n2 => 2 | .n3 => 3 | .n4 => 4

/-- The heater that an oven element is. -/
def ovenHeaterAsHeater : OvenHeater → Heater
  | .top => .htop | .base => .hbase | .ring => .hring

/-- The oven element that a heater is, if it is one. -/
def asOvenHeater : Heater → Option OvenHeater
  | .htop => some .top
  | .hbase => some .base
  | .hring => some .ring
  | .hz1 | .hz2 | .hgrill => none

/-- The B channel of a burner (00 section 2.3). -/
def burnerChannel : Burner → Channel
  | .n1 => .b1 | .n2 => .b2 | .n3 => .b3 | .n4 => .b4

/-- The burner of a B channel, none for the electric channels. -/
def channelBurner : Channel → Option Burner
  | .b1 => some .n1
  | .b2 => some .n2
  | .b3 => some .n3
  | .b4 => some .n4
  | .z1 | .z2 | .ov | .gr => none

/-- The heater of Z1, Z2 or GR, the channels that have a channel level (R38). -/
def hobHeater : Channel → Option Heater
  | .z1 => some .hz1
  | .z2 => some .hz2
  | .gr => some .hgrill
  | .b1 | .b2 | .b3 | .b4 | .ov => none

/-- Z1, Z2, OV and GR (00 section 2.1). -/
def isElectric : Channel → Bool
  | .z1 | .z2 | .ov | .gr => true
  | .b1 | .b2 | .b3 | .b4 => false

/-- Channel state codes (Table 1-2). -/
def stateCode : ChannelState → Nat
  | .empty => 0 | .ready => 1 | .running => 2 | .paused => 3 | .done => 4 | .halted => 5

/-- Stage end cause codes (Table 1-2). -/
def endCode : EndCause → Nat
  | .none => 0 | .elapsed => 1 | .target => 2 | .cut => 3 | .flushed => 4

/-- Halt cause codes (Table 1-2). -/
def haltCode : HaltCause → Nat
  | .none => 0 | .element => 1 | .supply => 2 | .probe => 3

/-- Plan end cause codes (Table 1-2). -/
def planEndCode : PlanEnd → Nat
  | .none => 0 | .complete => 1 | .pauseExpired => 2

/-- Oven mode codes (Table 4-3). -/
def modeCode : Mode → Nat
  | .conventional => 0 | .fanRing => 1 | .fanConventional => 2 | .base => 3 | .top => 4
  | .defrost => 5

/-- The oven mode of a code, none for 6 or more. -/
def modeOf (code : Nat) : Option Mode :=
  [Mode.conventional, .fanRing, .fanConventional, .base, .top, .defrost][code]?

/-- Stage kind codes (Table 1-4). -/
def stageKindCode : StageKind → Nat
  | .level _ => 1 | .ramp _ _ _ => 2 | .wait => 3 | .bake _ _ => 4 | .flame => 5

/-- Scheduler state codes (R51). -/
def schedCode : SchedState → Nat
  | .stopped => 0 | .starting => 1 | .running => 2

/-- Hold cause codes (R51). -/
def holdCode : HoldCause → Nat
  | .none => 0 | .failed => 1 | .supplyOff => 2

/-- Burner state codes (Table 5-2). -/
def burnerStateCode : BurnerState → Nat
  | .off => 0 | .queued => 1 | .igniting => 2 | .burning => 3 | .retryGap => 4 | .lockout => 5
  | .waitClose => 6

/-- Knob state codes (Table 5-2). -/
def knobCode : KnobPos → Nat
  | .closed => 0 | .opened => 1

/-- Door state codes (Table 8-10). -/
def doorCode : DoorPos → Nat
  | .shut => 0 | .opened => 1

/-- Part state codes (Table 9-1). -/
def partCode : PartState → Nat
  | .configuring => 0 | .operating => 1 | .locked => 2

/-- Reset cause codes (Table 9-1). -/
def resetCauseCode : ResetCause → Nat
  | .powerOn => 1 | .requested => 2

/-- Notice kind codes (Table 7-1). -/
def noticeCode : NoticeKind → Nat
  | .stageEnd => 1 | .planEnd => 2 | .channelHalted => 3 | .target => 4 | .burner => 5
  | .heater => 6 | .supplyOff => 7 | .probe => 8 | .linkLost => 9

/-- Progress mark codes (Table 8-9). -/
def markCode : Mark → Nat
  | .pending => 0 | .current => 1 | .ended _ => 2 | .flushed => 3

/-- The end cause carried beside a mark, 0 unless it is ENDED (Table 8-9). -/
def markEndCode : Mark → Nat
  | .ended c => endCode c
  | .pending | .current | .flushed => 0

/-! ## Numbers (R172) -/

def flagNat (b : Bool) : Nat := if b then 1 else 0

/-- A number of two characters, most significant first. -/
def be16 (n : Nat) : List Byte := [byteOf (n / 256), byteOf n]

/-- A number of three characters, most significant first. -/
def be24 (n : Nat) : List Byte := [byteOf (n / 65536), byteOf (n / 256), byteOf n]

/-- Character i of a body, 0 past its end. -/
def charAt (body : List Byte) (i : Nat) : Byte := body.getD i 0

/-- The value of character i of a body. -/
def num8 (body : List Byte) (i : Nat) : Nat := (charAt body i).toNat

/-- The unsigned number in characters i and i + 1. -/
def num16 (body : List Byte) (i : Nat) : Nat := num8 body i * 256 + num8 body (i + 1)

/-- The unsigned number in characters i to i + 2. -/
def num24 (body : List Byte) (i : Nat) : Nat :=
  num8 body i * 65536 + num8 body (i + 1) * 256 + num8 body (i + 2)

/-- The number in characters i to i + 2 in two's complement. -/
def int24 (body : List Byte) (i : Nat) : Int :=
  if num24 body i < 8388608 then (num24 body i : Int) else (num24 body i : Int) - 16777216

/-- A remaining time in three characters; untimed is 0xFFFFFF. -/
def remainingChars : Remaining → List Byte
  | .timed n => be24 n
  | .untimed => be24 0xFFFFFF

/-- The bits of a mask or flag character, bit 0 first. -/
def maskOf : List Bool → Nat
  | [] => 0
  | b :: bs => flagNat b + 2 * maskOf bs

/-! ## Stage records (Table 8-11) and notices (Table 8-12) -/

/-- The record length that a kind code requires; none outside 1 to 5 (R11, R167). -/
def recordLength (kindCode : Nat) : Option Nat :=
  match kindCode with
  | 1 => some 6
  | 2 => some 9
  | 3 => some 5
  | 4 => some 8
  | 5 => some 5
  | _ => none

def flagsChar (r : StageSpec) : Byte :=
  byteOf (maskOf [r.notify, r.cleanOnly, r.endOnTarget, r.preheat])

/-- The characters of a stage record. -/
def recordChars (r : StageSpec) : List Byte :=
  [byteOf (stageKindCode r.kind), flagsChar r] ++ be24 r.duration ++
    match r.kind with
    | .level n => [byteOf n]
    | .ramp a b l => [byteOf a, byteOf b] ++ be16 l
    | .wait | .flame => []
    | .bake m t => [byteOf (modeCode m)] ++ be16 t

/-- The characters of a notice. -/
def noticeChars (n : Notice) : List Byte :=
  [byteOf (noticeCode n.kind), byteOf n.subject, byteOf n.detail1, byteOf n.detail2]

end Sys2Proof.Machine
end

