-- ==== Sys2Proof/Machine/Notices.lean ====
section
/-! DEFINITION. NTQ: raising a notice, the assertion check and the release of ATTN. -/

namespace Sys2Proof.Machine

open Sys2Proof

/-- The assertion check (R149). An interval of 0 ms leaves the spacing timer stopped. -/
def assertionCheck (s : State) : State :=
  if s.ntq.attn = false ∧ s.ntq.armed = true ∧ s.ntq.queue ≠ [] ∧ s.ntq.spacing = none then
    s.withNtq { s.ntq with
      attn := true
      armed := false
      spacing := if s.cfg.spacing = 0 then none else some s.cfg.spacing }
  else s

/-- A block raises a notice (R145, R153). -/
def raise (n : Notice) (s : State) : State :=
  if s.ntq.frozen then s
  else if s.ntq.queue.length < 16 then
    assertionCheck (s.withNtq { s.ntq with queue := s.ntq.queue ++ [n] })
  else s.withNtq { s.ntq with overflow := true }

/-- ARM ATTENTION, and a FETCH NOTICES with re-arm flag 1 (R146, R148). -/
def armLine (s : State) : State := assertionCheck (s.withNtq { s.ntq with armed := true })

def stageEndNotice (c : Channel) (index : Nat) (cause : EndCause) : Notice :=
  { kind := .stageEnd, subject := channelCode c, detail1 := index, detail2 := endCode cause }

def planEndNotice (c : Channel) (cause : PlanEnd) (detail : Nat) : Notice :=
  { kind := .planEnd, subject := channelCode c, detail1 := planEndCode cause, detail2 := detail }

def haltedNotice (c : Channel) (cause : HaltCause) (index : Nat) : Notice :=
  { kind := .channelHalted, subject := channelCode c, detail1 := haltCode cause, detail2 := index }

def targetNotice (index : Nat) : Notice :=
  { kind := .target, subject := 6, detail1 := index, detail2 := 0 }

/-- BURNER notices (Table 5-6): LOCKOUT 1, FLAME-LOST 2, TIMED-OFF 3. -/
def burnerNotice (n : Burner) (event detail : Nat) : Notice :=
  { kind := .burner, subject := burnerNumber n, detail1 := event, detail2 := detail }

/-- HEATER notices: FAILED 1, WELDED 2. -/
def heaterNotice (h : Heater) (finding detail : Nat) : Notice :=
  { kind := .heater, subject := heaterCode h, detail1 := finding, detail2 := detail }

def supplyOffNotice : Notice := { kind := .supplyOff, subject := 0xFF, detail1 := 0, detail2 := 0 }

/-- PROBE notices: FAULT 1, CLEAR 2. -/
def probeNotice (event detail : Nat) : Notice :=
  { kind := .probe, subject := 6, detail1 := event, detail2 := detail }

def linkLostNotice : Notice := { kind := .linkLost, subject := 0xFF, detail1 := 0, detail2 := 0 }

end Sys2Proof.Machine
end

