-- ==== Sys2Proof/Machine/Frame.lean ====
section
/-! DEFINITION. OUT's drives and settling, the cooling fan, and the placement of heaters in the power
frame. -/

namespace Sys2Proof.Machine

open Sys2Proof

/-! ## The filtered temperature and the cooling fan -/

/-- T_f: the floor of the mean of the probe buffer, undefined while it is empty (R78, R79). -/
def filtered (buffer : List Nat) : Option Nat :=
  match buffer with
  | [] => none
  | _ :: _ => some (buffer.sum / buffer.length)

def State.tempF (s : State) : Option Nat := filtered s.ovr.buffer

/-- Whether one of the four commands that the cooling fan follows is on (R97). -/
def ovenOrGrillOn (s : State) : Bool :=
  (s.heater .htop).relay || (s.heater .hbase).relay || (s.heater .hring).relay ||
    (s.heater .hgrill).relay

/-- The cooling fan as R97 sets it. -/
def coolingFanValue (anyOn : Bool) (temp : Option Nat) (now : Bool) : Bool :=
  match anyOn, temp with
  | true, _ => true
  | false, none => false
  | false, some t => if 60 ≤ t then true else if t < 50 then false else now

/-- OVR evaluates the cooling fan at a change of a relay command (R97), and marks whether the fan has gone
off in this moment. -/
def evalCoolingFan (s : State) : State :=
  let fan := coolingFanValue (ovenOrGrillOn s) s.tempF s.ovr.coolingFan
  s.withOvr { s.ovr with
    coolingFan := fan
    fanJustOff := (s.ovr.coolingFan || s.ovr.fanJustOff) && !fan }

/-- OVR evaluates the cooling fan at a new T_f (R97). A reading and a relay command change of one moment
leave the same fan in either order (R99): where the fan keeps its state, that is its state before a command
that went off in this moment. DEDUCED (log 35): a moment lasts until a millisecond passes. -/
def evalCoolingFanAtReading (s : State) : State :=
  s.withOvr { s.ovr with
    coolingFan :=
      coolingFanValue (ovenOrGrillOn s) s.tempF (s.ovr.coolingFan || s.ovr.fanJustOff)
    fanJustOff := false }

/-- The cooling fan follows HTOP, HBASE, HRING and HGRILL and not HZ1 or HZ2 (R97). -/
def feedsCoolingFan : Heater → Bool
  | .htop | .hbase | .hring | .hgrill => true
  | .hz1 | .hz2 => false

/-! ## OUT: drives and settling -/

/-- An installed heater enters SETTLING with its run at 0 (R130). -/
def settle (h : Heater) (s : State) : State :=
  if (s.install h).installed then
    s.setHeaterOut h { s.heaterOut h with check := .settling 200, run := 0 }
  else s

/-- Every installed heater enters SETTLING: a change of the contactor, or the switching on of the
contactor check (R130). -/
def settleAll (s : State) : State := allHeaters.foldl (fun t h => settle h t) s

/-- A changed relay command is handed to OUT, which sets the drive and restarts the settling (R71,
R127, R130). -/
def handCommand (h : Heater) (on : Bool) (s : State) : State :=
  let s := s.setHeater h { s.heater h with relay := on }
  settle h (s.setHeaterOut h { s.heaterOut h with drive := on })

/-- The relay command goes off between slot boundaries; a command that does not change is not handed
(R62, R71). -/
def relayOff (h : Heater) (s : State) : State :=
  if (s.heater h).relay then
    let s := handCommand h false s
    if feedsCoolingFan h then evalCoolingFan s else s
  else s

/-! ## Placement -/

/-- The demand of a channel level (R55, Table 3-3). -/
def slotsOfLevel (level : Nat) : Nat := (32 * level + 6) / 12

/-- What a placement walk leaves. -/
structure Placement where
  capacity : Slots Nat
  placed : Slots Bool
  granted : Nat
  deriving DecidableEq, Repr

/-- The placement walk of one heater of rating P toward d slots, over the slots still to visit (R58,
R63). -/
def placeWalk (P d : Nat) : List (Fin 32) → Placement → Placement
  | [], w => w
  | i :: rest, w =>
    if w.granted < d ∧ P ≤ w.capacity.get i then
      placeWalk P d rest
        { capacity := w.capacity.set i (w.capacity.get i - P)
          placed := w.placed.set i true
          granted := w.granted + 1 }
    else placeWalk P d rest w

def noSlots : Slots Bool := Vector.replicate 32 false

/-- The order in which a frame boundary visits the slots for a heater of offset o: o, o + 1, … 31, 0,
… o − 1 (R58). -/
def frameWalk (offset : Nat) : List (Fin 32) :=
  (List.finRange 32).map (fun i => i + Fin.ofNat 32 offset)

/-- The slots after slot s, in order (R63). -/
def lateWalk (s : Fin 32) : List (Fin 32) := (List.finRange 32).filter (fun i => s < i)

/-- The installed heaters in rank order (R57, R66). -/
def rankOrder (s : State) : List Heater :=
  (List.range 7).flatMap (fun r =>
    allHeaters.filter (fun h => (s.install h).installed && (s.install h).rank == r))

/-- A drop to zero (R62). -/
def dropHeater (h : Heater) (s : State) : State :=
  let inSlot := (s.heater h).placed.get s.pfs.slot
  let s := s.setHeater h { s.heater h with placed := noSlots, granted := 0, frame := 0 }
  if inSlot then relayOff h s else s

/-- The late demand of a rise to d in slot s (R63). -/
def lateDemand (d : Nat) (s : Fin 32) : Nat := d * (31 - s.val) / 32

/-- A rise from zero to d (R63). -/
def latePlace (h : Heater) (d : Nat) (s : State) : State :=
  let w := placeWalk (s.install h).rating (lateDemand d s.pfs.slot) (lateWalk s.pfs.slot)
    { capacity := s.pfs.capacity, placed := noSlots, granted := 0 }
  let s := s.withPfs { s.pfs with capacity := w.capacity }
  s.setHeater h { s.heater h with frame := d, late := true, placed := w.placed, granted := w.granted }

/-- A source hands a change of a heater's requested demand (R61, R68, R69). -/
def demandChange (h : Heater) (d : Nat) (s : State) : State :=
  let old := (s.heater h).requested
  if (s.heater h).hold ≠ .none then s
  else match s.pfs.sched with
    | .stopped => s
    | .starting => s.setHeater h { s.heater h with requested := d }
    | .running =>
      if d = old then s
      else
        let s := s.setHeater h { s.heater h with requested := d }
        if d = 0 then dropHeater h s
        else if old = 0 then latePlace h d s
        else s

/-- OUT reports a condition that holds a heater's demand at 0 (R68). -/
def holdHeater (h : Heater) (cause : HoldCause) (s : State) : State :=
  if (s.heater h).hold ≠ .none then s
  else
    let old := (s.heater h).frame
    let s := s.setHeater h { s.heater h with hold := cause, requested := 0 }
    if 0 < old then dropHeater h s else s

/-! ## Boundaries -/

/-- The commands of one slot: each installed heater's command follows its placement set, and each
change is handed (R53, R71). -/
def setCommand (h : Heater) (s : State) : State :=
  let on := (s.heater h).placed.get s.pfs.slot
  if (s.install h).installed && (s.heater h).relay != on then handCommand h on s else s

/-- All heaters' commands are set and handed together; the cooling fan is evaluated after the last of
them when one that it follows has changed (R71, R97). -/
def setCommands (s : State) : State :=
  let t := allHeaters.foldl (fun t h => setCommand h t) s
  if allHeaters.any (fun h => feedsCoolingFan h && (s.heater h).relay != (t.heater h).relay) then
    evalCoolingFan t
  else t

/-- A frame boundary takes one heater's old placement away (R54 step 3). -/
def clearHeater (h : Heater) (s : State) : State :=
  if (s.install h).installed then
    s.setHeater h { s.heater h with placed := noSlots, granted := 0, promoted := false, late := false }
  else s

/-- The frame demand of the new frame (R54 step 5). -/
def takeDemand (h : Heater) (s : State) : State :=
  if (s.install h).installed then
    s.setHeater h { s.heater h with
      frame := if (s.heater h).hold = .none then (s.heater h).requested else 0 }
  else s

/-- One heater is placed at a frame boundary (R57, R58). -/
def placeHeater (promoted : Bool) (h : Heater) (s : State) : State :=
  let r := s.heater h
  let w := placeWalk (s.install h).rating r.frame (frameWalk (s.install h).offset)
    { capacity := s.pfs.capacity, placed := noSlots, granted := 0 }
  let s := s.withPfs { s.pfs with capacity := w.capacity }
  s.setHeater h { r with placed := w.placed, granted := w.granted, promoted := promoted }

/-- The starve count after a placement (R59). -/
def starveAfter (r : HeaterFrame) : Nat :=
  if r.promoted then 0
  else if 0 < r.frame ∧ r.granted < r.frame then min 3 (r.starve + 1)
  else 0

def updateStarve (h : Heater) (s : State) : State :=
  if (s.install h).installed then
    s.setHeater h { s.heater h with starve := starveAfter (s.heater h) }
  else s

/-- The placement of every installed heater, the promoted group first (R54 steps 5 to 7, R57). -/
def placeFrame (s : State) : State :=
  let order := rankOrder s
  let promoted := order.filter (fun h => (s.heater h).starve == 3)
  let others := order.filter (fun h => (s.heater h).starve != 3)
  let s := allHeaters.foldl (fun t h => takeDemand h t) s
  let s := promoted.foldl (fun t h => placeHeater true h t) s
  let s := others.foldl (fun t h => placeHeater false h t) s
  allHeaters.foldl (fun t h => updateStarve h t) s

/-- A new frame begins: the frame number, the slot, the capacities and the old placements (R52, R54
steps 1 to 3). -/
def openFrame (s : State) : State :=
  let s := s.withPfs { s.pfs with
    sched := .running
    frameNumber := (s.pfs.frameNumber + 1) % 65536
    slot := 0
    capacity := Vector.replicate 32 (s.cfg.budget.getD 0)
    slotTimer := some 1000 }
  allHeaters.foldl (fun t h => clearHeater h t) s

end Sys2Proof.Machine
end

