-- ==== Sys2Proof/Machine/Oven.lean ====
section
/-! DEFINITION. OVR: the element set, the oven demand, the oven fan and the lamp, and what a BAKE or
WAIT stage hands over. -/

namespace Sys2Proof.Machine

open Sys2Proof

/-! ## The element set -/

/-- One row of Table 4-3. -/
structure ElementRow where
  elements : PerOven Bool
  fan : Bool
  deriving DecidableEq, Repr

/-- The row of the boost set or of a mode (Table 4-3). -/
def elementRow (source : ElementSource) (mode : Mode) : ElementRow :=
  match source, mode with
  | .boost, _ => ⟨⟨true, true, true⟩, true⟩
  | .mode, .conventional => ⟨⟨true, true, false⟩, false⟩
  | .mode, .fanRing => ⟨⟨false, false, true⟩, true⟩
  | .mode, .fanConventional => ⟨⟨true, true, false⟩, true⟩
  | .mode, .base => ⟨⟨false, true, false⟩, false⟩
  | .mode, .top => ⟨⟨true, false, false⟩, false⟩
  | .mode, .defrost => ⟨⟨false, false, false⟩, true⟩

/-- An oven heater is installed, and OUT does not hold it FAILED. -/
def ovenHeaterWorks (s : State) (h : OvenHeater) : Bool :=
  (s.install (ovenHeaterAsHeater h)).installed && !(s.heaterOut (ovenHeaterAsHeater h)).failed

/-- OVR forms the active element set from its element source and mode (R83). -/
def formSet (s : State) : State :=
  let row := elementRow s.ovr.source s.ovr.mode
  s.withOvr { s.ovr with
    active :=
      { top := row.elements.top && ovenHeaterWorks s .top
        base := row.elements.base && ovenHeaterWorks s .base
        ring := row.elements.ring && ovenHeaterWorks s .ring }
    fanMark := row.fan }

/-- The set is empty by failure: its row names an installed heater, and every such heater is FAILED
(R84). -/
def emptyByFailure (s : State) : Bool :=
  let named := ovenHeaters.filter (fun h =>
    (elementRow s.ovr.source s.ovr.mode).elements.get h &&
      (s.install (ovenHeaterAsHeater h)).installed)
  !named.isEmpty && named.all (fun h => (s.heaterOut (ovenHeaterAsHeater h)).failed)

/-! ## The oven demand -/

/-- OV is RUNNING in a BAKE stage. -/
def bakeRunning (s : State) : Bool :=
  decide ((s.chan .ov).state = .running) && decide (s.ovr.context = .bake)

/-- The oven demand D (R85). -/
def ovenDemand (s : State) : Nat :=
  match s.tempF with
  | none => 0
  | some t =>
    if bakeRunning s = false ∨ s.ovr.mode = .defrost ∨ s.ovr.setpoint ≤ t then 0
    else min 32 ((32 * (s.ovr.setpoint - t) + s.cfg.band - 1) / s.cfg.band)

/-- The demand of one oven heater (R85, R93). -/
def heaterDemand (s : State) (h : OvenHeater) : Nat :=
  if s.ovr.active.get h = false then 0
  else if h = .ring ∧ s.ovr.doorState = .opened then 0
  else ovenDemand s

/-- OVR hands one value to PFS and records it, where it differs from the handed demand (R86). -/
def handDemand (h : OvenHeater) (d : Nat) (s : State) : State :=
  if s.ovr.handed.get h = d then s
  else
    demandChange (ovenHeaterAsHeater h) d
      (s.withOvr { s.ovr with handed := s.ovr.handed.set h d })

/-- The installed oven heaters in rank order (R66). -/
def ovenRankOrder (s : State) : List OvenHeater := (rankOrder s).filterMap asOvenHeater

/-- OVR hands every oven heater its demand (R86). -/
def handAll (s : State) : State :=
  (ovenRankOrder s).foldl (fun t h => handDemand h (heaterDemand s h) t) s

/-- OVR hands 0 for every oven heater whose handed demand is above 0 (R91). -/
def handZero (s : State) : State :=
  (ovenRankOrder s).foldl (fun t h => handDemand h 0 t) s

/-! ## Oven fan and lamp -/

/-- R95. -/
def ovenFanValue (s : State) : Bool :=
  bakeRunning s && s.ovr.fanMark && decide (s.ovr.doorState = .shut)

/-- R96. -/
def lampValue (s : State) : Bool := bakeRunning s || decide (s.ovr.doorState = .opened)

/-- OVR sets the oven fan and the lamp again (R95, R96). -/
def refreshOven (s : State) : State :=
  s.withOvr { s.ovr with ovenFan := ovenFanValue s, lamp := lampValue s }

/-! ## What OVR takes from PLR -/

/-- The active set of a WAIT stage, or of no stage: empty (R82). -/
def clearContext (context : OvenContext) (s : State) : State :=
  s.withOvr { s.ovr with
    context := context, active := PerOven.const false, fanMark := false, boostEndPending := false }

/-- OVR takes a BAKE stage entry (R82 steps 1 to 4). -/
def takeBake (mode : Mode) (setpoint : Nat) (preheat : Bool) (s : State) : State :=
  formSet (s.withOvr { s.ovr with
    context := .bake
    mode := mode
    setpoint := setpoint
    source := if preheat = true ∧ mode ≠ .defrost then .boost else .mode
    boostEndPending := false })

/-- OVR takes the OV channel as it stands at the end of an event: no current stage in EMPTY, READY and
DONE, then the demand, the fan and the lamp (R82, R86, R95, R96). -/
def syncOven (s : State) : State :=
  let s := match (s.chan .ov).state with
    | .empty | .ready | .done => clearContext .none s
    | .running | .paused | .halted => s
  refreshOven (handAll s)

/-- The filtered temperature is at or above the setpoint (R87). -/
def atTarget (s : State) : Bool :=
  match s.tempF with
  | none => false
  | some t => decide (s.ovr.setpoint ≤ t)

/-- The overshoot check (R91). -/
def overshootCut (s : State) : State :=
  match s.tempF with
  | none => s
  | some t =>
    if bakeRunning s = true ∧ s.ovr.setpoint + s.cfg.overshoot ≤ t then handZero s else s

end Sys2Proof.Machine
end

