-- ==== Sys2Proof/Machine/Supervisor.lean ====
section
/-! DEFINITION. BSV: the generator, the ignition queue, the hold window and the gas permit. -/

namespace Sys2Proof.Machine

open Sys2Proof

/-- The valve of a burner is open while it is IGNITING or BURNING (R102). -/
def valveOpen (b : BurnerRec) : Bool :=
  match b.state with
  | .igniting | .burning => true
  | .off | .queued | .retryGap | .lockout | .waitClose => false

/-- Every timer of a burner stopped, the flame-loss timer at 0 run (R105, R120, R121). -/
def BurnerRec.stopTimers (b : BurnerRec) : BurnerRec :=
  { b with attemptTimer := none, proving := none, gap := none, flameLoss := .stopped }

/-- The generator is released (R108). -/
def releaseGenerator (s : State) : State :=
  s.withBsv { s.bsv with owner := none, rest := some 500, hold := .tail 300 }

/-- The generator is released when burner n owns it. -/
def releaseIfOwner (n : Burner) (s : State) : State :=
  if s.bsv.owner = some n then releaseGenerator s else s

/-- The hold freezes a BURNING burner's flame-loss timer with the run it has (R116). -/
def freezeFlame (b : BurnerRec) : BurnerRec :=
  match b.state, b.flameLoss with
  | .burning, .running r => { b with flameLoss := .frozen r }
  | _, _ => b

/-- The grant check (R107). -/
def grantCheck (s : State) : State :=
  match s.bsv.owner, s.bsv.rest, s.bsv.queue with
  | none, none, n :: queue =>
    let s := s.withBsv { s.bsv with
      burners := s.bsv.burners.map (fun _ b => freezeFlame b)
      queue := queue
      owner := some n
      hold := .run }
    s.setBurner n { s.burner n with
      state := .igniting
      attemptTimer := some 4000
      proving := if s.pins.flame.get n then some 0 else none }
  | _, _, _ => s

/-- A burner joins the tail of the ignition queue (R104, R106, R113). -/
def joinQueue (n : Burner) (s : State) : State :=
  let s := s.withBsv { s.bsv with queue := s.bsv.queue ++ [n] }
  grantCheck (s.setBurner n { s.burner n with state := .queued, gap := none })

/-- A burner leaves its state for another with its valve closed: it leaves the queue, releases the
generator and stops its timers (R105, R120, R121). -/
def shutBurner (n : Burner) (next : BurnerState) (s : State) : State :=
  let s := s.withBsv { s.bsv with queue := s.bsv.queue.filter (fun m => decide (m ≠ n)) }
  let s := releaseIfOwner n s
  s.setBurner n { (s.burner n).stopTimers with state := next }

/-- Whether a burner is in a state that a permit withdrawal ends (R120). -/
def endsAtWithdrawal (b : BurnerState) : Bool :=
  match b with
  | .queued | .igniting | .burning | .retryGap => true
  | .off | .lockout | .waitClose => false

/-- PLR hands the withdrawal of a burner's permit (R120); TIMED-OFF carries its cause. -/
def withdrawPermit (n : Burner) (cause : PlanEnd) (s : State) : State :=
  let s := s.setBurner n { s.burner n with permit := false }
  if endsAtWithdrawal (s.burner n).state then
    raise (burnerNotice n 3 (planEndCode cause)) (shutBurner n .waitClose s)
  else s

/-- PLR hands the return of a burner's permit (R123). -/
def returnPermit (n : Burner) (s : State) : State :=
  s.setBurner n { s.burner n with permit := true }

/-- STOP ALL at one burner (R121). -/
def stopBurner (n : Burner) (s : State) : State :=
  if (s.burner n).state = .off then s else shutBurner n .waitClose s

/-- STOP ALL at every burner (R121). -/
def stopBurners (s : State) : State := allBurners.foldl (fun t n => stopBurner n t) s

/-- A proven flame (R110). The generator's release opens the tail, so the flame-loss timer starts
FROZEN. -/
def proveFlame (n : Burner) (s : State) : State :=
  let s := releaseGenerator s
  s.setBurner n { s.burner n with
    state := .burning, attemptTimer := none, proving := none, attempts := 0, flameLoss := .frozen 0 }

/-- A failed attempt (R111). -/
def failAttempt (n : Burner) (s : State) : State :=
  let s := releaseGenerator s
  let b : BurnerRec := { s.burner n with
    attemptTimer := none, proving := none, attempts := (s.burner n).attempts + 1 }
  if 3 ≤ b.attempts then
    raise (burnerNotice n 1 1) (s.setBurner n { b with state := .lockout })
  else s.setBurner n { b with state := .retryGap, gap := some 2000 }

/-- A lost flame (R115). -/
def loseFlame (n : Burner) (s : State) : State :=
  let b : BurnerRec := { s.burner n with flameLoss := .stopped, losses := (s.burner n).losses + 1 }
  let lost := burnerNotice n 2 b.losses
  if 4 ≤ b.losses then
    raise (burnerNotice n 1 2) (raise lost (s.setBurner n { b with state := .lockout }))
  else raise lost (s.setBurner n { b with state := .retryGap, gap := some 2000 })

/-- The closing hold window at one burner: a BURNING burner's flame-loss timer runs again on the sense
as it stands, and a full run with no flame shown is a loss in this event (R114, R116, R118). That the
burners are taken in number order is the model's choice (log 30). -/
def thawFlame (n : Burner) (s : State) : State :=
  match (s.burner n).state, (s.burner n).flameLoss with
  | .burning, .frozen r =>
    if s.pins.flame.get n then s.setBurner n { s.burner n with flameLoss := .running 0 }
    else if 1000 ≤ r then loseFlame n s
    else s.setBurner n { s.burner n with flameLoss := .running r }
  | _, _ => s

/-- The knob opens (R104). -/
def openKnob (n : Burner) (s : State) : State :=
  let s := s.setBurner n { s.burner n with knob := .opened, debounce := none }
  if (s.burner n).permit then joinQueue n s
  else s.setBurner n { s.burner n with state := .waitClose }

/-- The knob closes, as far as BSV goes (R105 steps 1 to 6). -/
def closeKnob (n : Burner) (s : State) : State :=
  let s := shutBurner n .off s
  s.setBurner n { s.burner n with knob := .closed, debounce := none, attempts := 0, losses := 0 }

/-- A change of the flame sense at a burner (R110, R114). -/
def senseFlame (shown : Bool) (b : BurnerRec) : BurnerRec :=
  match b.state with
  | .igniting =>
    { b with proving := if shown then some (b.proving.getD 0) else none }
  | .burning =>
    match b.flameLoss with
    | .running _ => if shown then { b with flameLoss := .running 0 } else b
    | .stopped | .frozen _ => b
  | .off | .queued | .retryGap | .lockout | .waitClose => b

/-- Entry to LOCKED at one burner (R125). -/
def lockBurner (b : BurnerRec) : BurnerRec :=
  { b.stopTimers with
    state := match b.knob with
      | .closed => .off
      | .opened => .waitClose
    debounce := none, attempts := 0, losses := 0 }

/-- Entry to LOCKED (R125). -/
def lockSupervisor (s : State) : State :=
  s.withBsv
    { burners := s.bsv.burners.map (fun _ b => lockBurner b)
      queue := [], owner := none, rest := none, hold := .closed }

end Sys2Proof.Machine
end

