-- ==== Sys2Proof/Machine/Plan.lean ====
section
/-! DEFINITION. PLR: the channel level, ramps, entering and ending stages, the flush chain, pausing,
halting and emptying a channel, and what an event hands on at its end. -/

namespace Sys2Proof.Machine

open Sys2Proof

/-! ## Reading a channel record -/

/-- The number of records of the plan (Table 1-1). -/
def ChannelRec.stageCount (r : ChannelRec) : Nat := r.plan.length

/-- The record of the stage index, none in EMPTY and DONE (R5). -/
def ChannelRec.current (r : ChannelRec) : Option PoolRecord := r.plan[r.stageIndex]?

/-- A duration as a remaining time: 0 is untimed (R4, R31). -/
def remainingOf (duration : Nat) : Remaining :=
  if duration = 0 then .untimed else .timed duration

/-- The segment count k = ceil(D ÷ L) (R39). -/
def segmentCount (duration segment : Nat) : Nat := (duration + segment - 1) / segment

/-- The level of segment j of k, from a to b (R40). -/
def segmentLevel (a b k j : Nat) : Nat :=
  if k ≤ 1 then b
  else
    let delta := if a ≤ b then b - a else a - b
    let step := (delta * j + (k - 1) / 2) / (k - 1)
    if a ≤ b then a + step else a - step

/-- The length of the last segment for the present duration (R39). -/
def lastSegment (duration segment k : Nat) : Nat := duration - (k - 1) * segment

/-- The remaining time at which segment j gives way to segment j + 1 (R41). -/
def segmentBoundary (duration segment k j : Nat) : Nat :=
  lastSegment duration segment k + (k - 2 - j) * segment

/-- The level of the current stage or segment, 0 in a stage without a level (R22, R38). -/
def stageLevel (r : ChannelRec) : Nat :=
  match r.current with
  | none => 0
  | some p =>
    match p.spec.kind with
    | .level n => n
    | .ramp a b _ => segmentLevel a b r.segCount r.segIndex
    | .wait | .bake _ _ | .flame => 0

/-- The channel level (R38). -/
def channelLevel (r : ChannelRec) : Nat := if r.state = .running then stageLevel r else 0

/-- The gas permit that the state of a B channel gives (R26). -/
def permitOf (st : ChannelState) : Bool :=
  match st with
  | .empty | .ready | .running | .paused => true
  | .done | .halted => false

/-! ## What an event hands on at its end (R49) -/

/-- The channel level of Z1, Z2 and GR: a change is handed to PFS as a change of demand (R38, R55). -/
def syncLevel (c : Channel) (h : Heater) (s : State) : State :=
  let level := channelLevel (s.chan c)
  if level = (s.chan c).level then s
  else demandChange h (slotsOfLevel level) (s.setChan c { s.chan c with level := level })

/-- The gas permit of a B channel: a change is handed to BSV with its cause (R26). -/
def syncPermit (c : Channel) (n : Burner) (s : State) : State :=
  match (s.burner n).permit, permitOf (s.chan c).state with
  | true, false => withdrawPermit n (s.chan c).planEnd s
  | false, true => returnPermit n s
  | _, _ => s

/-- PLR hands on, once for the event, what the event has changed at a channel (R49). -/
def sync (c : Channel) (s : State) : State :=
  match c with
  | .b1 => syncPermit .b1 .n1 s
  | .b2 => syncPermit .b2 .n2 s
  | .b3 => syncPermit .b3 .n3 s
  | .b4 => syncPermit .b4 .n4 s
  | .z1 => syncLevel .z1 .hz1 s
  | .z2 => syncLevel .z2 .hz2 s
  | .ov => syncOven s
  | .gr => syncLevel .gr .hgrill s

/-! ## Changes of one record of a plan -/

/-- A change of pool record i of a channel's plan. -/
def ChannelRec.modifyRecord (r : ChannelRec) (i : Nat) (f : PoolRecord → PoolRecord) : ChannelRec :=
  { r with plan := r.plan.modify i f }

def markRecord (c : Channel) (i : Nat) (m : Mark) (s : State) : State :=
  s.setChan c ((s.chan c).modifyRecord i (fun p => { p with mark := m }))

/-- A STAGE-END notice when the record carries NOTIFY (R4). -/
def notifyStage (c : Channel) (i : Nat) (cause : EndCause) (s : State) : State :=
  match (s.chan c).plan[i]? with
  | some p => if p.spec.notify then raise (stageEndNotice c i cause) s else s
  | none => s

def setLastEnd (c : Channel) (cause : EndCause) (s : State) : State :=
  s.setChan c { s.chan c with lastEnd := cause }

/-! ## Ends and entries -/

/-- A stage ends: its mark, its notice, the last end cause (R33 steps 1 to 3). -/
def endStage (c : Channel) (i : Nat) (cause : EndCause) (s : State) : State :=
  setLastEnd c cause (notifyStage c i cause (markRecord c i (.ended cause) s))

/-- A CLEAN-ONLY stage is flushed (R32 steps 1 to 3). -/
def flushStage (c : Channel) (i : Nat) (s : State) : State :=
  setLastEnd c .flushed (notifyStage c i .flushed (markRecord c i .flushed s))

/-- The channel becomes DONE with a plan end cause and raises PLAN-END (R35, R36). -/
def finishPlan (c : Channel) (cause : PlanEnd) (detail : Nat) (s : State) : State :=
  let r := s.chan c
  raise (planEndNotice c cause detail)
    (s.setChan c { r with
      state := .done, stageIndex := r.stageCount, segIndex := 0, segCount := 0,
      remaining := .timed 0, secondTimer := none, pauseTimer := none, planEnd := cause })

/-- No stage is left to enter (R35). -/
def completePlan (c : Channel) (s : State) : State :=
  finishPlan c .complete (s.chan c).stageCount s

/-- PLR halts a channel (R23 steps 1 to 4). -/
def haltChannel (c : Channel) (cause : HaltCause) (s : State) : State :=
  raise (haltedNotice c cause (s.chan c).stageIndex)
    (s.setChan c { s.chan c with
      state := .halted, haltCause := cause, secondTimer := none, pauseTimer := none })

/-- The entry of a stage in the channel record (R31 steps 1 to 4). -/
def enterRecord (c : Channel) (i : Nat) (p : PoolRecord) (s : State) : State :=
  let r := (s.chan c).modifyRecord i (fun q => { q with mark := .current, targetReached := false })
  s.setChan c { r with
    stageIndex := i
    segIndex := 0
    segCount := match p.spec.kind with
      | .ramp _ _ l => segmentCount p.spec.duration l
      | .level _ | .wait | .bake _ _ | .flame => 0
    remaining := remainingOf p.spec.duration }

/-- OVR finds the target of the current BAKE stage (R87 steps 1 to 3). -/
def findTarget (s : State) : State :=
  let i := (s.chan .ov).stageIndex
  let s := s.setChan .ov ((s.chan .ov).modifyRecord i (fun p => { p with targetReached := true }))
  let s := raise (targetNotice i) s
  if s.ovr.source = .boost then s.withOvr { s.ovr with boostEndPending := true } else s

/-- Entry of stage i, with the flush chain and the targets found at the entry (R31, R32, R34, R82). The
argument fuel bounds the stages one entry can pass: one more than the records from i on suffices. -/
def enterFrom (c : Channel) : (fuel : Nat) → (i : Nat) → State → State
  | 0, _, s => s
  | fuel + 1, i, s =>
    match (s.chan c).plan[i]? with
    | none => completePlan c s
    | some p =>
      if p.spec.cleanOnly = true ∧ ((s.chan c).lastEnd = .cut ∨ (s.chan c).lastEnd = .flushed) then
        enterFrom c fuel (i + 1) (flushStage c i s)
      else
        let s := enterRecord c i p s
        if c = .ov then
          match p.spec.kind with
          | .bake mode setpoint =>
            let s := takeBake mode setpoint p.spec.preheat s
            if emptyByFailure s then haltChannel .ov .element s
            else if atTarget s then
              let s := findTarget s
              if p.spec.endOnTarget then enterFrom c fuel (i + 1) (endStage c i .target s) else s
            else s
          | .wait | .level _ | .ramp _ _ _ | .flame => clearContext .wait s
        else s

/-- Stage i is entered, or the plan ends when there is none (R31, R35). -/
def enterStage (c : Channel) (i : Nat) (s : State) : State :=
  enterFrom c ((s.chan c).stageCount + 1) i s

/-- The current stage ends and the next is entered in the same event (R33). -/
def endCurrent (c : Channel) (cause : EndCause) (s : State) : State :=
  let i := (s.chan c).stageIndex
  enterStage c (i + 1) (endStage c i cause s)

/-- Whether OV's current stage is a BAKE stage whose target-reached flag is clear, and whether it
carries END-ON-TARGET. -/
def openTarget (s : State) : Option Bool :=
  match (s.chan .ov).current with
  | some p =>
    match p.spec.kind with
    | .bake _ _ => if p.targetReached then none else some p.spec.endOnTarget
    | .level _ | .ramp _ _ _ | .wait | .flame => none
  | none => none

/-- The target check of a RUNNING BAKE stage (R87): an END-ON-TARGET stage ends, and what that changes
is handed on (R34, R49). -/
def targetCheck (s : State) : State :=
  if bakeRunning s = true ∧ atTarget s = true then
    match openTarget s with
    | none => s
    | some ends =>
      let s := findTarget s
      if ends then sync .ov (endCurrent .ov .target s) else s
  else s

/-! ## Moving a channel -/

/-- PAUSE, and the pause of a link loss (R16, R24, R36). -/
def pauseChannel (c : Channel) (s : State) : State :=
  sync c (s.setChan c { s.chan c with
    state := .paused, secondTimer := none, pauseTimer := some { left := 600, phase := 0 } })

/-- The channel enters EMPTY: its plan is freed and its record reset (R7, R19, R20); the channel level
is handed with the rest of the event. -/
def emptyRecord (c : Channel) (s : State) : State :=
  let r := s.chan c
  (s.setChan c { ChannelRec.reset with level := r.level }).withPst
    { s.pst with free := s.pst.free + r.plan.length }

def emptyChannel (c : Channel) (s : State) : State := sync c (emptyRecord c s)

/-- A fault halts a channel that is RUNNING or PAUSED, or READY where the fault reaches it (R23). -/
def faultReaches (cause : HaltCause) (c : Channel) (st : ChannelState) : Bool :=
  match cause, st with
  | .none, _ => false
  | _, .running => true
  | .supply, .paused | .supply, .ready => true
  | .element, .paused => decide (c = .ov)
  | .probe, .paused => true
  | .element, .ready | .probe, .ready => false
  | _, .empty | _, .done | _, .halted => false

/-- A fault is reported to PLR (R23): the channels it concerns are halted, and what that changes is
handed on. -/
def reportFault (c : Channel) (cause : HaltCause) (s : State) : State :=
  if faultReaches cause c (s.chan c).state then sync c (haltChannel c cause s) else s

/-- The pause expires (R36). -/
def expirePause (c : Channel) (s : State) : State :=
  let i := (s.chan c).stageIndex
  sync c (finishPlan c .pauseExpired i (endStage c i .cut s))

/-- A RAMP stage whose remaining has come to a segment boundary (R41). -/
def advanceSegment (c : Channel) (remaining : Nat) (s : State) : State :=
  let r := s.chan c
  match r.current with
  | some p =>
    match p.spec.kind with
    | .ramp _ _ l =>
      if r.segIndex + 1 < r.segCount ∧
          remaining = segmentBoundary p.spec.duration l r.segCount r.segIndex then
        sync c (s.setChan c { r with segIndex := r.segIndex + 1 })
      else s
    | .level _ | .wait | .bake _ _ | .flame => s
  | none => s

/-- A completion of a RUNNING channel's second timer (R30). -/
def channelTick (c : Channel) (s : State) : State :=
  match (s.chan c).remaining with
  | .untimed => s
  | .timed n =>
    let s := s.setChan c { s.chan c with remaining := .timed (n - 1) }
    if n - 1 = 0 then sync c (endCurrent c .elapsed s) else advanceSegment c (n - 1) s

/-- Before a frame boundary computes the oven demand, a pending switch from BOOST to MODE (R88). -/
def boostSwitch (s : State) : State :=
  if s.ovr.boostEndPending then
    let s := formSet (s.withOvr { s.ovr with source := .mode, boostEndPending := false })
    let s := if s.ovr.context = .bake ∧ emptyByFailure s = true then reportFault .ov .element s else s
    s.withOvr { s.ovr with ovenFan := ovenFanValue s }
  else s

/-- OVR records and PFS takes the demand of one oven heater for a new frame (R54 step 4, R85). -/
def frameDemand (h : OvenHeater) (d : Nat) (s : State) : State :=
  let g := ovenHeaterAsHeater h
  let s := s.withOvr { s.ovr with handed := s.ovr.handed.set h d }
  if (s.heater g).hold = .none ∧ (s.install g).installed = true then
    s.setHeater g { s.heater g with requested := d }
  else s

/-- The oven demand of a new frame (R54 step 4, R85, R88). -/
def frameOven (s : State) : State :=
  let s := boostSwitch s
  ovenHeaters.foldl (fun t h => frameDemand h (heaterDemand s h) t) s

/-- A frame boundary (R54). -/
def frameEvent (s : State) : State := setCommands (placeFrame (frameOven (openFrame s)))

/-- A slot boundary that is no frame boundary (R53). -/
def slotEvent (s : State) : State :=
  setCommands (s.withPfs { s.pfs with slot := s.pfs.slot + 1, slotTimer := some 1000 })

end Sys2Proof.Machine
end

