-- ==== Sys2Proof/Machine/BurnerCommands.lean ====
section
/-! DEFINITION. The meanings of the knobs, the flame senses and the burners' timers. -/

namespace Sys2Proof.Machine

open Sys2Proof

def withKnob (n : Burner) (level : KnobPos) (s : State) : State :=
  s.withPins { s.pins with knob := s.pins.knob.set n level }

/-- KNOB_INPUT_CHANGE (R103): the debounce starts again, or returns to idle. -/
def execKnobInputChange (n : Burner) (level : KnobPos) (s : State) : Result :=
  .next
    (if level = s.pins.knob.get n then s
    else
      let s := withKnob n level s
      if s.out.locked then s
      else s.setBurner n { s.burner n with
        debounce := if level = (s.burner n).knob then none else some 0 })

/-- KNOB_OPENED (R103, R104): KNn has shown open for 50 ms (log 10). -/
def execKnobOpened (n : Burner) (s : State) : Result :=
  .next
    (if s.out.locked = true ∨ (s.burner n).knob = .opened then s
    else openKnob n (withKnob n .opened s))

/-- The report of a knob closing to PLR (R25). -/
def reportClosing (c : Channel) (s : State) : State :=
  if (s.chan c).state = .done then emptyChannel c s else s

/-- KNOB_CLOSED (R103, R105): KNn has shown closed for 50 ms (log 10). -/
def execKnobClosed (n : Burner) (s : State) : Result :=
  .next
    (if s.out.locked = true ∨ (s.burner n).knob = .closed then s
    else reportClosing (burnerChannel n) (closeKnob n (withKnob n .closed s)))

/-- REST_TIMER_EXPIRY (R108): it acts while the rest timer runs. -/
def execRestTimerExpiry (s : State) : Result :=
  .next (if s.bsv.rest.isSome then grantCheck (s.withBsv { s.bsv with rest := none }) else s)

/-- FLAME_SENSE_CHANGE (R110, R114). -/
def execFlameSenseChange (n : Burner) (shown : Bool) (s : State) : Result :=
  .next
    (let s := s.withPins { s.pins with flame := s.pins.flame.set n shown }
    if s.out.locked then s else s.setBurner n (senseFlame shown (s.burner n)))

/-- FLAME_PROVEN (R110): it acts while the proving timer of an IGNITING burner runs. -/
def execFlameProven (n : Burner) (s : State) : Result :=
  .next
    (if (s.burner n).state = .igniting ∧ (s.burner n).proving.isSome = true then proveFlame n s
    else s)

/-- ATTEMPT_FAILED (R111): it acts while the attempt timer of an IGNITING burner runs. -/
def execAttemptFailed (n : Burner) (s : State) : Result :=
  .next
    (if (s.burner n).state = .igniting ∧ (s.burner n).attemptTimer.isSome = true then failAttempt n s
    else s)

/-- RETRY_GAP_EXPIRY (R113): it acts while the gap timer of a burner in RETRY-GAP runs. -/
def execRetryGapExpiry (n : Burner) (s : State) : Result :=
  .next
    (if (s.burner n).state = .retryGap ∧ (s.burner n).gap.isSome = true then joinQueue n s else s)

/-- The flame-loss timer of a burner counts: BURNING, RUNNING and no flame shown (R114). -/
def lossCounts (n : Burner) (s : State) : Bool :=
  match (s.burner n).state, (s.burner n).flameLoss with
  | .burning, .running _ => !s.pins.flame.get n
  | _, _ => false

/-- FLAME_LOST (R115): it acts while the flame-loss timer of the burner counts. -/
def execFlameLost (n : Burner) (s : State) : Result :=
  .next (if lossCounts n s then loseFlame n s else s)

/-- HOLD_TAIL_END (R116): it acts in the tail of the hold window. DESIGN CHOICE (log 30): the burners
are taken in number order, 1 to 4, and the notices of several losses found here stand in that order; no
rule orders them. -/
def execHoldTailEnd (s : State) : Result :=
  .next
    (match s.bsv.hold with
      | .tail _ =>
        allBurners.foldl (fun t n => thawFlame n t) (s.withBsv { s.bsv with hold := .closed })
      | .closed | .run => s)

end Sys2Proof.Machine
end

