-- ==== Sys2Proof/Machine/Findings.lean ====
section
/-! DEFINITION. OUT: the expected sense, the findings FAILED, WELDED and LOCKED, and what each reports
to the other blocks. -/

namespace Sys2Proof.Machine

open Sys2Proof

/-- The expected sense of a heater: present, absent or none (R129). -/
def expectedSense (s : State) (h : Heater) : Option Bool :=
  if (s.install h).installed = false then none
  else match s.out.contactor with
    | .closed => some (s.heater h).relay
    | .opened => if s.out.check then some false else none

/-- A WATCHING heater's sense disagrees with the expected one, so its run counts (R131). A WELDED
heater's run is held at 0 while the contactor is CLOSED. -/
def disagrees (s : State) (h : Heater) : Bool :=
  decide ((s.heaterOut h).check = .watching) &&
    (expectedSense s h).any (fun e => e != s.pins.loadSense.get h) &&
    !(decide (s.out.contactor = .closed) && !(s.heater h).relay && (s.heaterOut h).welded)

/-- A heater found FAILED (R133): PFS holds and drops it, the flag, the notice, and the report to PLR
or, for an oven heater, to OVR, which takes it out of the set and checks the set (R83, R84). -/
def findFailed (h : Heater) (s : State) : State :=
  let s := holdHeater h .failed s
  let s := s.setHeaterOut h { s.heaterOut h with failed := true }
  let s := raise (heaterNotice h 1 0) s
  match h with
  | .hz1 => reportFault .z1 .element s
  | .hz2 => reportFault .z2 .element s
  | .hgrill => reportFault .gr .element s
  | .htop | .hbase | .hring =>
    let s := match asOvenHeater h with
      | some o => handDemand o 0 s
      | none => s
    if s.ovr.context = .bake then
      let s := formSet s
      if emptyByFailure s then reportFault .ov .element s else s
    else s

/-- A WELDED mark with its notice (R135 step 1, R137). -/
def markWelded (detail : Nat) (h : Heater) (s : State) : State :=
  let s := s.setHeaterOut h { s.heaterOut h with welded := true }
  raise (heaterNotice h 2 detail) s

/-- Whether a heater is found WELDED when its run reaches 2,000 ms (R135, R137). -/
def weldDue (s : State) (h : Heater) : Bool :=
  disagrees s h && decide (s.out.contactor = .closed) && !(s.heater h).relay

/-- PFS holds every installed heater on supply-off (R68, R135 step 2). -/
def holdSupply (s : State) : State :=
  (allHeaters.filter (fun h => (s.install h).installed)).foldl
    (fun t h => holdHeater h .supplyOff t) s

/-- The first weld (R135); also are the heaters whose runs reach 2,000 ms at the same moment (R137). -/
def findWelded (h : Heater) (also : List Heater) (s : State) : State :=
  let further := allHeaters.filter (fun g => also.contains g && decide (g ≠ h) && weldDue s g)
  let s := markWelded 0 h s
  let s := further.foldl (fun t g => markWelded 1 g t) s
  let s := holdSupply (s.withOut { s.out with supplyOff := true })
  let s := settleAll (s.withOut { s.out with contactor := .opened })
  let s := raise supplyOffNotice s
  let s := [Channel.z1, .z2, .ov, .gr].foldl (fun t c => reportFault c .supply t) s
  settleAll (s.withOut { s.out with check := true, proving := some 2200 })

/-- A heater of the output stage in LOCKED: its drive low, IDLE, its run 0 (R139 step 1). -/
def lockHeaterOut (r : HeaterOut) : HeaterOut := { r with drive := false, check := .idle, run := 0 }

/-- PFS in LOCKED: every command off, every capacity 0, STOPPED (R72). -/
def lockFrame (s : State) : State :=
  s.withPfs { s.pfs with
    sched := .stopped
    capacity := Vector.replicate 32 0
    heaters := s.pfs.heaters.map (fun _ r => { r with relay := false })
    slotTimer := none }

/-- OVR in LOCKED: its outputs off, the probe and the door no longer followed (R98). DESIGN CHOICE (log
37): a door debounce that is running becomes idle, and its run is discarded. -/
def lockOven (s : State) : State :=
  s.withOvr { s.ovr with
    ovenFan := false, lamp := false, coolingFan := false, probeTimer := none, doorDebounce := none }

/-- PLR and PST in LOCKED: their timers stop (R139 step 6). -/
def lockPlans (s : State) : State :=
  (s.withPlr { s.plr with
    chans := s.plr.chans.map (fun _ r => { r with secondTimer := none, pauseTimer := none }) }).withPst
    { s.pst with load := s.pst.load.map (fun l => { l with idle := none }) }

/-- Entry to LOCKED (R139, R72, R98, R125, R153, R169). -/
def enterLocked (s : State) : State :=
  let s := s.withOut
    { s.out with
      heaters := s.out.heaters.map (fun _ r => lockHeaterOut r)
      contactor := .opened, check := false, proving := none, locked := true }
  let s := s.withCfg { s.cfg with part := .locked }
  let s := lockPlans (lockSupervisor (lockOven (lockFrame s)))
  let s := s.withNtq { s.ntq with frozen := true, spacing := none }
  s.withLnk { s.lnk with supervision := none }

/-- A persistence run has reached 2,000 ms: the row of Table 6-3 that applies (R131). -/
def runReached (h : Heater) (also : List Heater) (s : State) : State :=
  if disagrees s h then
    match s.out.contactor with
    | .opened => enterLocked s
    | .closed => if (s.heater h).relay then findFailed h s else findWelded h also s
  else s

end Sys2Proof.Machine
end

