-- ==== Sys2Proof/Machine/Clock.lean ====
section
/-! DEFINITION. The part's own clock: what one millisecond does to the timers, which of the part's own
events are due, and the step on an empty queue (log 4, log 5). -/

namespace Sys2Proof.Machine

open Sys2Proof

/-! ## One millisecond -/

/-- A timer that counts the milliseconds it has left. -/
def countDown : Option Nat → Option Nat
  | none => none
  | some n => some (n - 1)

/-- A timer that counts the milliseconds it has run. -/
def countUp : Option Nat → Option Nat
  | none => none
  | some n => some (n + 1)

/-- R163. -/
def Transmitter.tick : Transmitter → Transmitter
  | .idle => .idle
  | .delay n => .delay (n - 1)
  | .sending n => .sending (n - 1)

/-- The gap timer, the transmitter and link supervision (R158, R163, R169). -/
def tickLink (s : State) : State :=
  s.withLnk { s.lnk with
    gap := countUp s.lnk.gap
    transmitter := s.lnk.transmitter.tick
    supervision := countDown s.lnk.supervision }

/-- The idle timer of the load context (R12). -/
def tickLoad (s : State) : State :=
  s.withPst { s.pst with load := s.pst.load.map (fun l => { l with idle := countDown l.idle }) }

/-- The second timer and the pause timer of a channel (R29, R36). -/
def ChannelRec.tick (r : ChannelRec) : ChannelRec :=
  { r with
    secondTimer := countUp r.secondTimer
    pauseTimer := r.pauseTimer.map (fun t => { t with phase := t.phase + 1 }) }

def tickChannels (s : State) : State :=
  s.withPlr { s.plr with chans := s.plr.chans.map (fun _ r => r.tick) }

/-- The slot timer (R52). -/
def tickFrame (s : State) : State := s.withPfs { s.pfs with slotTimer := countDown s.pfs.slotTimer }

/-- The probe timer and the door debounce (R77, R92). -/
def tickOven (s : State) : State :=
  s.withOvr { s.ovr with
    probeTimer := countDown s.ovr.probeTimer
    doorDebounce := countUp s.ovr.doorDebounce
    fanJustOff := false }

/-- R114: the flame-loss timer counts while it is RUNNING and no flame is shown. -/
def FlameLoss.tick (counts : Bool) : FlameLoss → FlameLoss
  | .running r => if counts then .running (r + 1) else .running r
  | .stopped => .stopped
  | .frozen r => .frozen r

/-- The timers of a burner (R103, R107, R110, R113, R114). -/
def BurnerRec.tick (counts : Bool) (b : BurnerRec) : BurnerRec :=
  { b with
    debounce := countUp b.debounce
    attemptTimer := countDown b.attemptTimer
    proving := countUp b.proving
    gap := countDown b.gap
    flameLoss := b.flameLoss.tick counts }

/-- R116. -/
def HoldWindow.tick : HoldWindow → HoldWindow
  | .tail n => .tail (n - 1)
  | .closed => .closed
  | .run => .run

def tickBurners (s : State) : State :=
  s.withBsv { s.bsv with
    burners := s.bsv.burners.map (fun n b => b.tick (lossCounts n s))
    rest := countDown s.bsv.rest
    hold := s.bsv.hold.tick }

/-- R130. -/
def CheckState.tick : CheckState → CheckState
  | .settling n => .settling (n - 1)
  | .idle => .idle
  | .watching => .watching

/-- The settling and the persistence run of a heater (R130, R131). -/
def HeaterOut.tick (counts : Bool) (r : HeaterOut) : HeaterOut :=
  { r with check := r.check.tick, run := if counts then r.run + 1 else r.run }

def tickOutputs (s : State) : State :=
  s.withOut { s.out with
    heaters := s.out.heaters.map (fun h r => r.tick (disagrees s h))
    proving := countDown s.out.proving }

/-- The spacing timer (R151). -/
def tickNotices (s : State) : State := s.withNtq { s.ntq with spacing := countDown s.ntq.spacing }

/-- One millisecond passes on every timer of the part. -/
def advance (s : State) : State :=
  tickNotices (tickOutputs (tickBurners (tickOven (tickFrame (tickChannels (tickLoad
    (tickLink s)))))))

/-! ## The events that are due -/

/-- The command c when it is due. -/
def dueWhen (due : Bool) (c : Instr) : List Instr := if due then [c] else []

/-- The events of LNK and PST (R12, R158, R163, R170). -/
def dueLink (s : State) : List Instr :=
  dueWhen (s.lnk.gap.any (fun n => decide (20 ≤ n))) .gapTimeout ++
    (match s.lnk.transmitter with
      | .delay 0 => [.replyStart]
      | .sending 0 => [.replySent]
      | .idle | .delay _ | .sending _ => []) ++
    dueWhen (s.lnk.supervision == some 0) .linkSupervisionExpiry ++
    dueWhen (s.pst.load.any (fun l => l.idle == some 0)) .loadIdleTimeout

/-- The events of a channel (R29, R36). -/
def dueChannel (s : State) (c : Channel) : List Instr :=
  dueWhen (decide ((s.chan c).state = .running) &&
      (s.chan c).secondTimer.any (fun n => decide (1000 ≤ n))) (.channelSecond c) ++
    dueWhen ((s.chan c).pauseTimer.any (fun t => decide (1000 ≤ t.phase))) (.pauseTimerSecond c)

/-- The boundaries of the power frame (R52). -/
def dueFrame (s : State) : List Instr :=
  dueWhen (s.pfs.slotTimer == some 0 && decide (s.pfs.sched ≠ .stopped))
    (if s.pfs.sched = .running ∧ s.pfs.slot ≠ 31 then .slotBoundary else .frameBoundary)

/-- The events of OVR (R77, R92). -/
def dueOven (s : State) : List Instr :=
  dueWhen (s.ovr.probeTimer == some 0) (.probeReading s.pins.prb) ++
    dueWhen (s.ovr.doorDebounce.any (fun n => decide (50 ≤ n)))
      (match s.pins.door with
        | .opened => .doorOpened
        | .shut => .doorClosed)

/-- The events of a burner (R103, R110, R111, R113, R115). -/
def dueBurner (s : State) (n : Burner) : List Instr :=
  let b := s.burner n
  dueWhen (b.debounce.any (fun k => decide (50 ≤ k)))
      (match s.pins.knob.get n with
        | .opened => .knobOpened n
        | .closed => .knobClosed n) ++
    dueWhen (decide (b.state = .igniting) && b.proving.any (fun k => decide (1000 ≤ k)))
      (.flameProven n) ++
    dueWhen (decide (b.state = .igniting) && b.attemptTimer == some 0) (.attemptFailed n) ++
    dueWhen (decide (b.state = .retryGap) && b.gap == some 0) (.retryGapExpiry n) ++
    dueWhen
      (lossCounts n s &&
        match b.flameLoss with
        | .running r => decide (1000 ≤ r)
        | .stopped | .frozen _ => false)
      (.flameLost n)

/-- The events of the spark generator and of the hold window (R108, R116). -/
def dueGenerator (s : State) : List Instr :=
  dueWhen (s.bsv.rest == some 0) .restTimerExpiry ++
    dueWhen (s.bsv.hold == .tail 0) .holdTailEnd

/-- A heater's persistence run has reached 2,000 ms (R131). -/
def runDue (s : State) (h : Heater) : Bool :=
  disagrees s h && decide (2000 ≤ (s.heaterOut h).run)

/-- The events of a heater's check (R130, R131, R137). -/
def dueHeater (s : State) (h : Heater) : List Instr :=
  dueWhen ((s.heaterOut h).check == .settling 0) (.settlingEnd h) ++
    dueWhen (runDue s h)
      (.persistenceRunExpiry h (allHeaters.filter (fun g => decide (g ≠ h) && runDue s g)))

/-- The events of OUT's proving timer and of NTQ (R138, R151). -/
def dueOutputs (s : State) : List Instr :=
  dueWhen (s.out.proving == some 0) .contactorProvingExpiry ++
    dueWhen (s.ntq.spacing == some 0) .spacingTimerExpiry

/-- Every event of the part's own that is due now. -/
def dueEvents (s : State) : List Instr :=
  dueLink s ++ allChannels.flatMap (dueChannel s) ++ dueFrame s ++ dueOven s ++
    allBurners.flatMap (dueBurner s) ++ dueGenerator s ++ allHeaters.flatMap (dueHeater s) ++
    dueOutputs s

/-- The step on an empty queue: one event that is due comes to wait, or, when none is due, one
millisecond passes. Among several the choice is free (log 4, log 5). -/
def idleStep (s : State) : State :=
  match dueEvents s with
  | [] => advance s
  | [c] => s.withPending [c]
  | c :: rest =>
    (s.withPending
      [(c :: rest).getD (Config.freeOrder s.drawn % (c :: rest).length) c]).withDrawn (s.drawn + 1)

end Sys2Proof.Machine
end

