-- ==== Sys2Proof/Machine/Flags.lean ====
section
/-! DEFINITION. The seven flags of the link status character (R166, Table 8-2). -/

namespace Sys2Proof.Machine

open Sys2Proof

/-- The link status: bit 0 RESTARTED, 1 DROPPED, 2 NOTICE, 3 LINK-LOST-SEEN, 4 CONFIGURING, 5 LOCKED,
6 SUPPLY-OFF, bit 7 is 0 (Table 8-6). -/
def linkStatus (s : State) : Byte :=
  byteOf (maskOf
    [s.cfg.restarted, s.lnk.dropped, decide (s.ntq.queue ≠ []), s.lnk.linkLostSeen,
      decide (s.cfg.part = .configuring), decide (s.cfg.part = .locked), s.out.supplyOff])

/-- The flags that the building of a reply to a request of some kind clears: DROPPED always, RESTARTED
and LINK-LOST-SEEN for STATUS (R166). -/
def clearReported (kind : Byte) (s : State) : State :=
  let s := s.withLnk { s.lnk with dropped := false }
  if kind = 0x01 then
    (s.withLnk { s.lnk with linkLostSeen := false }).withCfg { s.cfg with restarted := false }
  else s

end Sys2Proof.Machine
end

