-- ==== Sys2Proof/Machine/Requests.lean ====
section
/-! DEFINITION. The owners of the requests: what CFG, PST, PLR, PFS and NTQ check, do and answer. -/

namespace Sys2Proof.Machine

open Sys2Proof

/-- Refusal causes (Table 8-4). -/
inductive Cause where
  | unknownKind | badLength | locked | wrongState | notConfigured | outOfRange | busy | noSpace
  | sequence | noLoad | absent | blocked
  deriving DecidableEq, Repr

def causeCode : Cause → Nat
  | .unknownKind => 1 | .badLength => 2 | .locked => 3 | .wrongState => 4 | .notConfigured => 5
  | .outOfRange => 6 | .busy => 7 | .noSpace => 8 | .sequence => 9 | .noLoad => 10 | .absent => 11
  | .blocked => 12

/-- What an owner answers: acceptance with a reply body, or a refusal (R164, R168). -/
inductive Answer where
  | accept (body : List Byte)
  | refuse (cause : Cause) (detail : Nat)
  deriving DecidableEq, Repr

/-- An answer with the state the request leaves. -/
structure Answered where
  answer : Answer
  state : State
  deriving DecidableEq, Repr

/-- A refused request changes no state of its owner (R168). -/
def refused (cause : Cause) (detail : Nat) (s : State) : Answered := ⟨.refuse cause detail, s⟩

def accepted (body : List Byte) (s : State) : Answered := ⟨.accept body, s⟩

/-! ## Checks that several owners make -/

/-- The channel a request names: OUT-OF-RANGE for 8 or more, then ABSENT (R2, R15). -/
def namedChannel (code detail : Nat) (s : State) : Except (Cause × Nat) Channel :=
  match channelOf code with
  | none => .error (.outOfRange, detail)
  | some c =>
    if s.cfg.part = .operating ∧ s.cfg.absent.get c = true then .error (.absent, 0) else .ok c

/-- A request on one channel, after the checks of the channel code. -/
def onChannel (code detail : Nat) (f : Channel → State → Answered) (s : State) : Answered :=
  match namedChannel code detail s with
  | .error (cause, d) => refused cause d s
  | .ok c => f c s

/-- WRONG-STATE with the channel state code as detail (section 1.5). -/
def wrongState (c : Channel) (s : State) : Answered :=
  refused .wrongState (stateCode (s.chan c).state) s

/-- The reply of the channel requests: channel, state after, stage index after (section 1.5). -/
def channelReply (c : Channel) (s : State) : List Byte :=
  [byteOf (channelCode c), byteOf (stateCode (s.chan c).state), byteOf (s.chan c).stageIndex]

def channelDone (c : Channel) (s : State) : Answered := accepted (channelReply c s) s

/-! ## CFG -/

/-- A mask by heater code. -/
def heaterMask (f : Heater → Bool) : Byte := byteOf (maskOf (allHeaters.map f))

/-- STATUS (R180). -/
def statusReply (s : State) : List Byte :=
  [byteOf (partCode s.cfg.part), byteOf (resetCauseCode s.cfg.resetCause),
    byteOf (flagNat s.out.supplyOff)] ++
    allChannels.map (fun c => byteOf (stateCode (s.chan c).state)) ++
    [heaterMask (fun h => (s.heaterOut h).failed), heaterMask (fun h => (s.heaterOut h).welded)]

def ownStatus (s : State) : Answered := accepted (statusReply s) s

/-- The five characters of one heater record (Table 8-9). -/
def heaterCfgChars (r : HeaterCfg) : List Byte :=
  [byteOf (flagNat r.installed)] ++ be16 r.rating ++ [byteOf r.rank, byteOf r.offset]

/-- READ CONFIG (R181). -/
def configReply (s : State) : List Byte :=
  [byteOf (partCode s.cfg.part)] ++ be16 (s.cfg.budget.getD 0) ++
    [byteOf s.cfg.band, byteOf s.cfg.overshoot, byteOf s.cfg.supervision,
      byteOf (s.cfg.spacing / 100), byteOf s.pst.free] ++
    allHeaters.flatMap (fun h => heaterCfgChars (s.install h))

def ownReadConfig (s : State) : Answered := accepted (configReply s) s

/-- SET BUDGET (R176). -/
def ownSetBudget (budget : Nat) (s : State) : Answered :=
  if budget < 1000 ∨ 15000 < budget ∨ budget % 10 ≠ 0 then refused .outOfRange 1 s
  else accepted (be16 (s.cfg.budget.getD 0)) (s.withCfg { s.cfg with budget := some budget })

/-- The record a SET HEATER writes (R177). -/
def heaterRecord (installed rating rank offset : Nat) : HeaterCfg :=
  if installed = 1 then { installed := true, rating := rating, rank := rank, offset := offset }
  else { installed := false, rating := 0, rank := 0, offset := 0 }

/-- SET HEATER (R177). -/
def ownSetHeater (code installed rating rank offset : Nat) (s : State) : Answered :=
  match heaterOf code with
  | none => refused .outOfRange 1 s
  | some h =>
    if 1 < installed then refused .outOfRange 2 s
    else if installed = 1 ∧ (rating < 100 ∨ 4000 < rating ∨ rating % 10 ≠ 0) then
      refused .outOfRange 3 s
    else if installed = 1 ∧ (rank < 1 ∨ 6 < rank) then refused .outOfRange 4 s
    else if installed = 1 ∧ 31 < offset then refused .outOfRange 5 s
    else
      accepted ([byteOf (heaterCode h)] ++ heaterCfgChars (s.install h))
        (s.withCfg { s.cfg with
          heaters := s.cfg.heaters.set h (heaterRecord installed rating rank offset) })

/-- SET OVEN TUNING (R176). -/
def ownSetOvenTuning (band overshoot : Nat) (s : State) : Answered :=
  if band < 4 ∨ 32 < band then refused .outOfRange 1 s
  else if overshoot < 10 ∨ 40 < overshoot then refused .outOfRange 2 s
  else accepted [byteOf s.cfg.band, byteOf s.cfg.overshoot]
    (s.withCfg { s.cfg with band := band, overshoot := overshoot })

/-- SET LINK (R176); the spacing operand counts steps of 100 ms. -/
def ownSetLink (supervision spacing : Nat) (s : State) : Answered :=
  if supervision < 4 ∨ 30 < supervision then refused .outOfRange 1 s
  else if 20 < spacing then refused .outOfRange 2 s
  else accepted [byteOf s.cfg.supervision, byteOf (s.cfg.spacing / 100)]
    (s.withCfg { s.cfg with supervision := supervision, spacing := 100 * spacing })

/-- The installed heaters, in code order. -/
def installedHeaters (s : State) : List Heater := allHeaters.filter (fun h => (s.install h).installed)

/-- The first failed check of CLOSE CONFIG (R178). -/
def closeProblem (s : State) : Option Nat :=
  let hs := installedHeaters s
  let ranks := hs.map (fun h => (s.install h).rank)
  match s.cfg.budget with
  | none => some 1
  | some budget =>
    if hs = [] then some 2
    else if ¬ (ranks.Nodup ∧ ∀ r ∈ ranks, 1 ≤ r ∧ r ≤ hs.length) then some 3
    else if ∃ h ∈ hs, budget < (s.install h).rating then some 4
    else none

/-- The electric channels without an installed heater (R2, R179). -/
def absentSet (s : State) : PerChannel Bool :=
  { b1 := false, b2 := false, b3 := false, b4 := false
    z1 := !(s.install .hz1).installed
    z2 := !(s.install .hz2).installed
    ov := !((s.install .htop).installed || (s.install .hbase).installed ||
      (s.install .hring).installed)
    gr := !(s.install .hgrill).installed }

/-- CLOSE CONFIG (R178, R179): CFG, then OUT closes the contactor, PFS starts (R52) and LNK starts the
supervision timer (R169). -/
def ownCloseConfig (s : State) : Answered :=
  match closeProblem s with
  | some detail => refused .outOfRange detail s
  | none =>
    let s := s.withCfg { s.cfg with absent := absentSet s, part := .operating }
    let s := settleAll (s.withOut { s.out with contactor := .closed })
    let s := s.withPfs { s.pfs with sched := .starting, slotTimer := some 500 }
    let s := s.withLnk { s.lnk with supervision := some (1000 * s.cfg.supervision) }
    accepted
      [heaterMask (fun h => (s.install h).installed),
        byteOf (maskOf (allChannels.map (fun c => s.cfg.absent.get c)))] s

/-- The contactor check is proving (R138). -/
def contactorProving (s : State) : Bool :=
  s.out.proving.isSome ||
    (s.out.check && (installedHeaters s).any (fun h => decide (0 < (s.heaterOut h).run)))

/-- RESTART (R182); the reset itself follows the reply (R163). -/
def ownRestart (s : State) : Answered :=
  if ∃ c ∈ allChannels, (s.chan c).state = .running ∨ (s.chan c).state = .paused then
    refused .busy 1 s
  else if ∃ n ∈ allBurners, (s.burner n).state ≠ .off then refused .busy 2 s
  else if contactorProving s then refused .busy 3 s
  else accepted [] s

/-! ## PST -/

/-- PLAN BEGIN (R9). -/
def ownPlanBegin (code count : Nat) (s : State) : Answered :=
  onChannel code 0
    (fun c s =>
      if count < 1 ∨ 12 < count then refused .outOfRange 0 s
      else
        accepted
          [byteOf (channelCode c), byteOf count, byteOf (s.pst.free + (s.chan c).stageCount)]
          (s.withPst { s.pst with
            load := some { target := c, expected := count, staged := [], idle := some 10000 } }))
    s

/-- The kinds accepted on a channel (Table 1-4), by kind code. -/
def kindAccepted (kindCode : Nat) (c : Channel) : Bool :=
  match c with
  | .z1 | .z2 | .gr => kindCode == 1 || kindCode == 2 || kindCode == 3
  | .ov => kindCode == 3 || kindCode == 4
  | .b1 | .b2 | .b3 | .b4 => kindCode == 5

/-- The first failed check of Table 1-5 on the characters of a record. -/
def recordProblem (rec : List Byte) (c : Channel) : Option Nat :=
  let k := num8 rec 0
  let flags := charAt rec 1
  let duration := num24 rec 2
  if k < 1 ∨ 5 < k then some 1
  else if kindAccepted k c = false then some 2
  else if k ≠ 4 ∧ (flags.getLsbD 2 = true ∨ flags.getLsbD 3 = true) then some 3
  else if 86399 < duration then some 4
  else if k = 1 ∧ (num8 rec 5 < 1 ∨ 12 < num8 rec 5) then some 5
  else if k = 2 ∧ (12 < num8 rec 5 ∨ 12 < num8 rec 6) then some 6
  else if k = 2 ∧ (num16 rec 7 < 30 ∨ 3600 < num16 rec 7) then some 7
  else if k = 2 ∧ duration < num16 rec 7 then some 8
  else if k = 2 ∧ 64 < segmentCount duration (num16 rec 7) then some 9
  else if k = 4 ∧ 5 < num8 rec 5 then some 10
  else if k = 4 ∧ (num16 rec 6 < 30 ∨ 275 < num16 rec 6) then some 11
  else none

/-- The kind and kind-dependent part in the characters of a record that passes its checks. -/
def recordKind (rec : List Byte) : StageKind :=
  match num8 rec 0 with
  | 1 => .level (num8 rec 5)
  | 2 => .ramp (num8 rec 5) (num8 rec 6) (num16 rec 7)
  | 4 => .bake ((modeOf (num8 rec 5)).getD .conventional) (num16 rec 6)
  | 5 => .flame
  | _ => .wait

/-- The record that the characters stage (Table 8-11); flag bits 4 to 7 are not stored (R172). -/
def recordOf (rec : List Byte) : StageSpec :=
  { kind := recordKind rec
    notify := (charAt rec 1).getLsbD 0
    cleanOnly := (charAt rec 1).getLsbD 1
    endOnTarget := (charAt rec 1).getLsbD 2
    preheat := (charAt rec 1).getLsbD 3
    duration := num24 rec 2 }

/-- PLAN STAGE (R10, R11). -/
def ownPlanStage (index : Nat) (rec : List Byte) (s : State) : Answered :=
  match s.pst.load with
  | none => refused .noLoad 0 s
  | some load =>
    let next := load.staged.length
    if index ≠ next ∨ load.expected ≤ next then refused .sequence next s
    else if (recordLength (num8 rec 0)).any (fun n => n != rec.length) then
      refused .badLength (rec.length + 1) s
    else
      match recordProblem rec load.target with
      | some detail => refused .outOfRange detail s
      | none =>
        accepted [byteOf index, byteOf (load.expected - (next + 1))]
          (s.withPst { s.pst with
            load := some { load with staged := load.staged ++ [recordOf rec], idle := some 10000 } })

/-- The load context is closed and its staged records discarded (R8, R13). -/
def closeLoad (s : State) : State := s.withPst { s.pst with load := none }

/-- A staged record as a pool record of a new plan (R14). -/
def freshRecord (r : StageSpec) : PoolRecord := { spec := r, mark := .pending, targetReached := false }

/-- The first failed check of PLAN COMMIT from check 2 on (R13). DESIGN CHOICE (log 33): a target that a
weld has just halted answers WRONG-STATE, as R13 and R23 say, although R142 has the commit accepted. -/
def commitProblem (load : LoadContext) (s : State) : Option (Cause × Nat) :=
  let r := s.chan load.target
  let available := s.pst.free + r.stageCount
  if load.staged.length < load.expected then some (.sequence, load.staged.length)
  else if r.state = .running ∨ r.state = .paused then some (.busy, stateCode r.state)
  else if r.state = .halted then some (.wrongState, stateCode r.state)
  else if load.target = .ov ∧ s.ovr.fault = true ∧
      ∃ p ∈ load.staged, stageKindCode p.kind = 4 then some (.blocked, 3)
  else if ∃ p ∈ load.staged.dropLast, p.duration = 0 then some (.outOfRange, 12)
  else if available < load.expected then some (.noSpace, available)
  else none

/-- The channel record of an accepted PLAN COMMIT (R14 step 3). -/
def readyRecord (plan : List PoolRecord) (level : Nat) : ChannelRec :=
  { ChannelRec.reset with
    state := .ready
    plan := plan
    remaining := remainingOf ((plan.head?.map (fun p => p.spec.duration)).getD 0)
    level := level }

/-- PLAN COMMIT (R13, R14). -/
def ownPlanCommit (s : State) : Answered :=
  match s.pst.load with
  | none => refused .noLoad 0 s
  | some load =>
    match commitProblem load s with
    | some (cause, detail) => refused cause detail (closeLoad s)
    | none =>
      let c := load.target
      let old := s.chan c
      let s := s.withPst
        { free := s.pst.free + old.stageCount - load.staged.length, load := none }
      let s := sync c (s.setChan c (readyRecord (load.staged.map freshRecord) old.level))
      accepted [byteOf (channelCode c), byteOf (s.chan c).stageCount, byteOf s.pst.free] s

/-! ## PLR: channel requests -/

/-- Every installed oven heater is FAILED (R15). -/
def allOvenFailed (s : State) : Bool :=
  let hs := [Heater.htop, .hbase, .hring].filter (fun h => (s.install h).installed)
  !hs.isEmpty && hs.all (fun h => (s.heaterOut h).failed)

/-- The plant check of START and QUICK LEVEL: the detail of BLOCKED (R15, R22). -/
def plantProblem (c : Channel) (s : State) : Option Nat :=
  if isElectric c = false then none
  else if s.out.supplyOff then some 2
  else if (hobHeater c).any (fun h => (s.heaterOut h).failed) then some 1
  else if c = .ov ∧ allOvenFailed s = true then some 1
  else if c = .ov ∧ s.ovr.fault = true then some 3
  else none

/-- A channel enters RUNNING at stage 0 (R15, R22, R29, R31). -/
def runFromStart (c : Channel) (s : State) : State :=
  sync c (enterStage c 0 (s.setChan c { s.chan c with
    state := .running, lastEnd := .none, secondTimer := some 0 }))

/-- START (R15). DESIGN CHOICE (log 33): a channel that a weld has just halted answers WRONG-STATE, as
R15 and R23 say, and not the BLOCKED of R142 and R136, which a READY channel under supply-off answers. -/
def actStart (c : Channel) (s : State) : Answered :=
  if (s.chan c).state ≠ .ready then wrongState c s
  else match plantProblem c s with
    | some detail => refused .blocked detail s
    | none => channelDone c (runFromStart c s)

/-- PAUSE (R16). -/
def actPause (c : Channel) (s : State) : Answered :=
  if (s.chan c).state ≠ .running then wrongState c s else channelDone c (pauseChannel c s)

/-- A PAUSED channel runs again (R17, R29); OV's target is checked before its demand returns (R87). -/
def resumeChannel (c : Channel) (s : State) : State :=
  let s := s.setChan c { s.chan c with
    state := .running, pauseTimer := none, secondTimer := some 0 }
  sync c (if c = .ov then targetCheck s else s)

/-- RESUME (R17). -/
def actResume (c : Channel) (s : State) : Answered :=
  if (s.chan c).state ≠ .paused then wrongState c s else channelDone c (resumeChannel c s)

/-- SKIP (R18). -/
def actSkip (c : Channel) (s : State) : Answered :=
  if (s.chan c).state ≠ .running then wrongState c s
  else channelDone c (sync c (endCurrent c .cut s))

/-- STOP (R19). -/
def actStop (c : Channel) (s : State) : Answered :=
  match (s.chan c).state with
  | .empty => channelDone c s
  | .ready | .running | .paused => channelDone c (emptyChannel c s)
  | .done | .halted => wrongState c s

/-- CLEAR (R20). -/
def actClear (c : Channel) (s : State) : Answered :=
  match (s.chan c).state with
  | .done | .halted => channelDone c (emptyChannel c s)
  | .empty | .ready | .running | .paused => wrongState c s

def ownStart (code : Nat) (s : State) : Answered := onChannel code 0 actStart s
def ownPause (code : Nat) (s : State) : Answered := onChannel code 0 actPause s
def ownResume (code : Nat) (s : State) : Answered := onChannel code 0 actResume s
def ownSkip (code : Nat) (s : State) : Answered := onChannel code 0 actSkip s
def ownStop (code : Nat) (s : State) : Answered := onChannel code 0 actStop s
def ownClear (code : Nat) (s : State) : Answered := onChannel code 0 actClear s

/-- STOP ALL (R21, R121): every channel, the load context, then the burners. -/
def stopEverything (s : State) : State :=
  stopBurners (allChannels.foldl (fun t c => sync c t)
    (closeLoad (allChannels.foldl (fun t c => emptyRecord c t) s)))

def ownStopAll (s : State) : Answered := accepted [] (stopEverything s)

/-! ## PLR: adjustments -/

/-- A change of the current record's loaded fields. -/
def changeCurrent (c : Channel) (f : StageSpec → StageSpec) (s : State) : State :=
  s.setChan c ((s.chan c).modifyRecord (s.chan c).stageIndex (fun p => { p with spec := f p.spec }))

/-- The effective delta of an ADJUST TIME d where an unrun part u may grow to high (R43, R44). -/
def effectiveDelta (u high d : Int) : Int := min (max (u + d) 1) high - u

/-- The effective delta on the current timed stage: on a RAMP the unrun part of the last segment, else
the remaining time (R43, R44). -/
def adjustDelta (r : ChannelRec) (p : StageSpec) (remaining : Nat) (d : Int) : Int :=
  let room : Int := 86399 - p.duration
  match p.kind with
  | .ramp _ _ l =>
    let u : Int :=
      if r.segIndex + 1 = r.segCount then remaining else lastSegment p.duration l r.segCount
    effectiveDelta u (u + room) d
  | .level _ | .wait | .bake _ _ | .flame => effectiveDelta remaining (remaining + room) d

/-- The remaining time and the duration move together (R43, R44). -/
def addTime (c : Channel) (remaining : Nat) (e : Int) (s : State) : State :=
  let s := changeCurrent c (fun p => { p with duration := (p.duration + e).toNat }) s
  s.setChan c { s.chan c with remaining := .timed (remaining + e).toNat }

/-- The reply of an ADJUST (R42): the values before and after. -/
def adjustReply (c : Channel) (code before after : Nat) (s : State) : List Byte :=
  [byteOf (channelCode c), byteOf code, byteOf (stateCode (s.chan c).state),
    byteOf (s.chan c).stageIndex] ++ be24 before ++ be24 after

/-- WRONG-STATE because the stage does not suit the adjustment (R42 check 6). -/
def unsuited (p : PoolRecord) (s : State) : Answered :=
  refused .wrongState (0x10 + stageKindCode p.spec.kind) s

/-- ADJUST TIME on the current stage (R43, R44). -/
def adjustTime (c : Channel) (d : Int) (p : PoolRecord) (s : State) : Answered :=
  match (s.chan c).remaining with
  | .untimed => unsuited p s
  | .timed r =>
    let e := adjustDelta (s.chan c) p.spec r d
    let s := addTime c r e s
    accepted (adjustReply c 0 r (r + e).toNat s) s

/-- An accepted ADJUST LEVEL, also of a QUICK LEVEL (R46). -/
def setLevel (c : Channel) (n : Nat) (s : State) : State :=
  sync c (changeCurrent c (fun p => { p with kind := .level n }) s)

/-- ADJUST LEVEL on the current stage (R46). -/
def adjustLevel (c : Channel) (n : Nat) (p : PoolRecord) (s : State) : Answered :=
  match p.spec.kind with
  | .level old =>
    let s := setLevel c n s
    accepted (adjustReply c 1 old n s) s
  | .ramp _ _ _ | .wait | .bake _ _ | .flame => unsuited p s

/-- An accepted ADJUST SETPOINT (R47, R90): the record and OVR take S; the target-reached flag is
cleared when T_f is undefined or below S; while RUNNING the overshoot check, then the target check.
R90 lists these two and states no order: DESIGN CHOICE (log 31): the overshoot check, which acts "at
once", comes first. -/
def setSetpoint (mode : Mode) (t : Nat) (s : State) : State :=
  let s := changeCurrent .ov (fun p => { p with kind := .bake mode t }) s
  let s := s.withOvr { s.ovr with setpoint := t }
  let s :=
    if atTarget s then s
    else s.setChan .ov ((s.chan .ov).modifyRecord (s.chan .ov).stageIndex
      (fun p => { p with targetReached := false }))
  targetCheck (overshootCut s)

/-- ADJUST SETPOINT on the current stage (R47); only OV holds BAKE stages (Table 1-4). -/
def adjustSetpoint (c : Channel) (t : Nat) (p : PoolRecord) (s : State) : Answered :=
  match p.spec.kind with
  | .bake mode old =>
    if c = .ov then
      let s := setSetpoint mode t s
      accepted (adjustReply c 2 old t s) s
    else unsuited p s
  | .level _ | .ramp _ _ _ | .wait | .flame => unsuited p s

/-- The range check of an ADJUST value: the detail of the refusal (R42 checks 3 and 4). -/
def adjustProblem (code : Nat) (unsignedValue : Nat) (signedValue : Int) : Option Nat :=
  match code with
  | 0 => if signedValue < -86399 ∨ 86399 < signedValue then some 4 else none
  | 1 => if unsignedValue < 1 ∨ 12 < unsignedValue then some 5 else none
  | 2 => if unsignedValue < 30 ∨ 275 < unsignedValue then some 11 else none
  | _ => some 2

/-- ADJUST after the checks of its operands (R42 checks 5 and 6). -/
def adjustCurrent (code : Nat) (unsignedValue : Nat) (signedValue : Int) (c : Channel) (s : State) :
    Answered :=
  match (s.chan c).state, (s.chan c).current with
  | .running, some p | .paused, some p =>
    match code with
    | 0 => adjustTime c signedValue p s
    | 1 => adjustLevel c unsignedValue p s
    | _ => adjustSetpoint c unsignedValue p s
  | _, _ => wrongState c s

/-- ADJUST (R42). -/
def ownAdjust (channel code unsignedValue : Nat) (signedValue : Int) (s : State) : Answered :=
  onChannel channel 1
    (fun c s =>
      match adjustProblem code unsignedValue signedValue with
      | some detail => refused .outOfRange detail s
      | none => adjustCurrent code unsignedValue signedValue c s)
    s

/-! ## PLR: QUICK LEVEL -/

/-- The previous level a QUICK LEVEL replies (R22). -/
def previousLevel (r : ChannelRec) : Nat :=
  match r.state with
  | .running | .paused => stageLevel r
  | .empty | .ready | .done | .halted => 0

/-- The reply of QUICK LEVEL (Table 8-9). -/
def quickDone (c : Channel) (previous : Nat) (s : State) : Answered :=
  accepted (channelReply c s ++ [byteOf previous]) s

/-- The stage that a QUICK LEVEL builds (R22). -/
def quickStage (n : Nat) : StageSpec :=
  { kind := .level n, notify := false, cleanOnly := false, endOnTarget := false, preheat := false,
    duration := 0 }

/-- The one-stage plan of a QUICK LEVEL is built and run (R22). -/
def quickPlan (c : Channel) (n : Nat) (s : State) : State :=
  let old := s.chan c
  let s := s.withPst { s.pst with free := s.pst.free + old.stageCount - 1 }
  runFromStart c (s.setChan c (readyRecord [freshRecord (quickStage n)] old.level))

/-- QUICK LEVEL with a level of 1 to 12 (R22). DESIGN CHOICE (log 33): a channel that a weld has just
halted answers WRONG-STATE, as R22 says, and not the BLOCKED of R142 and R136, which an EMPTY, READY or
DONE channel under supply-off answers. -/
def quickSet (c : Channel) (n : Nat) (s : State) : Answered :=
  let r := s.chan c
  match r.state with
  | .empty | .ready | .done =>
    match plantProblem c s with
    | some detail => refused .blocked detail s
    | none =>
      if s.pst.free + r.stageCount = 0 then refused .noSpace 0 s
      else quickDone c 0 (quickPlan c n s)
  | .running =>
    match r.current.map (fun p => p.spec.kind) with
    | some (StageKind.level old) => quickDone c old (setLevel c n s)
    | _ => wrongState c s
  | .paused | .halted => wrongState c s

/-- QUICK LEVEL with level 0 acts as STOP (R22). -/
def quickStop (c : Channel) (s : State) : Answered :=
  let previous := previousLevel (s.chan c)
  match (s.chan c).state with
  | .empty => quickDone c previous s
  | .ready | .running | .paused => quickDone c previous (emptyChannel c s)
  | .done | .halted => wrongState c s

/-- QUICK LEVEL (R22). -/
def ownQuickLevel (channel level : Nat) (s : State) : Answered :=
  onChannel channel 0
    (fun c s =>
      if hobHeater c = none then refused .outOfRange 2 s
      else if 13 ≤ level then refused .outOfRange 5 s
      else if level = 0 then quickStop c s
      else quickSet c level s)
    s

/-! ## Reading -/

/-- The stage has a remaining time to report: RUNNING, PAUSED and HALTED (Table 1-7). -/
def holdsStage (st : ChannelState) : Bool :=
  match st with
  | .running | .paused | .halted => true
  | .empty | .ready | .done => false

/-- A remaining time and the durations of some later stages (R48). -/
def addDurations (first : Remaining) (later : List PoolRecord) : Remaining :=
  match first with
  | .untimed => .untimed
  | .timed n =>
    if ∃ p ∈ later, p.spec.duration = 0 then .untimed
    else .timed (n + (later.map (fun p => p.spec.duration)).sum)

/-- The stage remaining that READ CHANNEL reports (Table 1-7). -/
def reportedRemaining (r : ChannelRec) : Remaining :=
  match r.state with
  | .running | .paused | .halted => r.remaining
  | .ready => remainingOf ((r.plan.head?.map (fun p => p.spec.duration)).getD 0)
  | .empty | .done => .timed 0

/-- The plan remaining that READ CHANNEL reports (R48, Table 1-7). -/
def planRemaining (r : ChannelRec) : Remaining :=
  match r.state with
  | .running | .paused | .halted => addDurations r.remaining (r.plan.drop (r.stageIndex + 1))
  | .ready => addDurations (.timed 0) r.plan
  | .empty | .done => .timed 0

/-- Demand and granted count of a heater, 0 and 0 when it is not installed (Table 1-7). -/
def demandChars (s : State) (h : Heater) : List Byte :=
  if (s.install h).installed then [byteOf (s.heater h).frame, byteOf (s.heater h).granted]
  else [0, 0]

/-- The part of the READ CHANNEL reply that depends on the channel (Table 8-10). -/
def channelPlant (c : Channel) (s : State) : List Byte :=
  match channelBurner c with
  | some n =>
    let b := s.burner n
    [byteOf (burnerStateCode b.state), byteOf (knobCode b.knob), byteOf b.attempts, byteOf b.losses]
  | none =>
    match hobHeater c with
    | some h => demandChars s h
    | none =>
      demandChars s .htop ++ demandChars s .hbase ++ demandChars s .hring ++
        be16 (s.tempF.getD 0xFFFF) ++
        [byteOf s.ovr.errorCounter, byteOf (flagNat s.ovr.fault), byteOf (doorCode s.ovr.doorState)]

/-- The READ CHANNEL reply (R28, Table 8-10). -/
def readChannelReply (c : Channel) (s : State) : List Byte :=
  let r := s.chan c
  [byteOf (channelCode c), byteOf (stateCode r.state), byteOf r.stageCount, byteOf r.stageIndex,
    byteOf (if holdsStage r.state then r.segIndex else 0)] ++
    remainingChars (reportedRemaining r) ++ remainingChars (planRemaining r) ++
    [byteOf (endCode r.lastEnd), byteOf (haltCode r.haltCause), byteOf (planEndCode r.planEnd)] ++
    be16 ((r.pauseTimer.map (fun t => t.left)).getD 0) ++
    channelPlant c s

/-- READ CHANNEL (R28). -/
def ownReadChannel (code : Nat) (s : State) : Answered :=
  onChannel code 0 (fun c s => accepted (readChannelReply c s) s) s

/-- The READ STAGE reply (R27, Tables 8-9 and 8-11). -/
def stageReply (c : Channel) (i : Nat) (p : PoolRecord) : List Byte :=
  [byteOf (channelCode c), byteOf i, byteOf (markCode p.mark), byteOf (markEndCode p.mark),
    byteOf (flagNat (stageKindCode p.spec.kind == 4 && p.targetReached))] ++ recordChars p.spec

/-- A successful read sets the cursor (R27). -/
def readRecord (c : Channel) (i : Nat) (p : PoolRecord) (s : State) : Answered :=
  accepted (stageReply c i p) (s.withPlr { s.plr with cursor := some (c, i) })

/-- READ STAGE (R27). -/
def ownReadStage (code index : Nat) (s : State) : Answered :=
  onChannel code 0
    (fun c s =>
      match (s.chan c).plan[index]? with
      | none => refused .outOfRange (s.chan c).stageCount s
      | some p => readRecord c index p s)
    s

/-- READ STAGE NEXT (R27). -/
def ownReadStageNext (s : State) : Answered :=
  match s.plr.cursor with
  | none => refused .wrongState 0 s
  | some (c, i) =>
    match (s.chan c).plan[i + 1]? with
    | none => refused .outOfRange 0 s
    | some p => readRecord c (i + 1) p s

/-- The placement set in four characters, slots 0 to 7 first (Table 8-9). Which bit of a character stands
for which of its eight slots is not stated: DESIGN CHOICE (log 32): the lowest slot is in bit 0. -/
def placementChars (placed : Slots Bool) : List Byte :=
  let bits := placed.toList
  [byteOf (maskOf (bits.take 8)), byteOf (maskOf ((bits.drop 8).take 8)),
    byteOf (maskOf ((bits.drop 16).take 8)), byteOf (maskOf (bits.drop 24))]

/-- The READ FRAME reply (R74, Table 8-9). -/
def readFrameReply (h : Heater) (s : State) : List Byte :=
  let r := s.heater h
  [byteOf (heaterCode h), byteOf (schedCode s.pfs.sched)] ++ be16 s.pfs.frameNumber ++
    [byteOf s.pfs.slot.val, byteOf r.requested, byteOf r.frame, byteOf r.granted, byteOf r.starve,
      byteOf (maskOf [r.promoted, r.late, r.relay]), byteOf (holdCode r.hold)] ++
    placementChars r.placed ++ be16 (s.pfs.capacity.get s.pfs.slot)

/-- READ FRAME (R73). -/
def ownReadFrame (code : Nat) (s : State) : Answered :=
  match heaterOf code with
  | none => refused .outOfRange 1 s
  | some h =>
    if s.cfg.part = .operating ∧ (s.install h).installed = false then refused .absent 0 s
    else accepted (readFrameReply h s) s

/-! ## NTQ -/

/-- The removal of the oldest notices by an accepted FETCH NOTICES (R146 steps 1 to 4, R150). -/
def takeNotices (maximum : Nat) (s : State) : State :=
  let queue := s.ntq.queue.drop maximum
  s.withNtq { s.ntq with
    queue := queue, overflow := false, attn := if queue = [] then false else s.ntq.attn }

/-- FETCH NOTICES (R146). -/
def ownFetchNotices (maximum rearm : Nat) (s : State) : Answered :=
  if maximum < 1 ∨ 5 < maximum then refused .outOfRange 1 s
  else if 1 < rearm then refused .outOfRange 2 s
  else
    let taken := s.ntq.queue.take maximum
    let body :=
      [byteOf taken.length, byteOf (flagNat s.ntq.overflow),
        byteOf (s.ntq.queue.length - taken.length)] ++ taken.flatMap noticeChars
    let t := takeNotices maximum s
    accepted body (if rearm = 1 then armLine t else t)

/-- ARM ATTENTION (R148). -/
def ownArmAttention (s : State) : Answered :=
  let s := armLine s
  accepted [byteOf s.ntq.queue.length, byteOf (flagNat s.ntq.attn)] s

end Sys2Proof.Machine
end

