-- ==== Sys2Proof/Machine/Reset.lean ====
section
/-! DEFINITION. The two resets (R175, R182). -/

namespace Sys2Proof.Machine

open Sys2Proof

/-- The unit address that the straps give (R154). -/
def unitAddressOf (ads1 ads0 : Bool) : Byte := byteOf (0x30 + 2 * flagNat ads1 + flagNat ads0)

/-- Every block at its reset values, with the knobs, the door and the straps read as their lines show
them now (R175). The input lines, the drawn count and the waiting commands stay. -/
def resetBlocks (cause : ResetCause) (s : State) : State :=
  { pins := s.pins
    lnk := Lnk.reset (unitAddressOf s.pins.ads1 s.pins.ads0)
    cfg := Cfg.reset cause
    pst := Pst.reset
    plr := Plr.reset
    pfs := Pfs.reset
    ovr := Ovr.reset s.pins.door
    bsv := Bsv.reset s.pins.knob
    out := OutStage.reset
    ntq := Ntq.reset
    drawn := s.drawn
    pending := s.pending }

/-- The levels that a POWER_ON_RESET command gives (R175). -/
def withResetPins (p : ResetPins) (s : State) : State :=
  s.withPins { s.pins with
    knob := ⟨p.kn1, p.kn2, p.kn3, p.kn4⟩, door := p.door, ads1 := p.ads1, ads0 := p.ads0 }

/-- A power-on reset (R175). -/
def powerOn (p : ResetPins) (s : State) : State := resetBlocks .powerOn (withResetPins p s)

/-- A requested restart (R182). -/
def requestedRestart (s : State) : State := resetBlocks .requested s

end Sys2Proof.Machine
end

