-- ==== Sys2Proof/Machine/Link.lean ====
section
/-! DEFINITION. RQH and LNK: the generic checks, the take of a request, its reply, the slots, the frame
assembler and link supervision. -/

namespace Sys2Proof.Machine

open Sys2Proof

/-! ## Kinds and generic checks -/

/-- The request kinds (Table 8-7). -/
inductive ReqKind where
  | status | readConfig | setBudget | setHeater | setOvenTuning | setLink | closeConfig | restart
  | planBegin | planStage | planCommit
  | start | pause | resume | skip | stop | clear | adjust | quickLevel | stopAll
  | readChannel | readStage | readFrame
  | fetchNotices | armAttention
  deriving DecidableEq, Repr

/-- The kind of a KIND character, none for a code outside Table 8-7. -/
def reqKindOf (code : Nat) : Option ReqKind :=
  match code with
  | 0x01 => some .status
  | 0x02 => some .readConfig
  | 0x03 => some .setBudget
  | 0x04 => some .setHeater
  | 0x05 => some .setOvenTuning
  | 0x06 => some .setLink
  | 0x07 => some .closeConfig
  | 0x08 => some .restart
  | 0x10 => some .planBegin
  | 0x11 => some .planStage
  | 0x12 => some .planCommit
  | 0x18 => some .start
  | 0x19 => some .pause
  | 0x1A => some .resume
  | 0x1B => some .skip
  | 0x1C => some .stop
  | 0x1D => some .clear
  | 0x1E => some .adjust
  | 0x1F => some .quickLevel
  | 0x20 => some .stopAll
  | 0x28 => some .readChannel
  | 0x29 => some .readStage
  | 0x2A => some .readFrame
  | 0x30 => some .fetchNotices
  | 0x31 => some .armAttention
  | _ => none

/-- The body lengths of a kind (Table 8-7, R167). -/
def lengthFits (k : ReqKind) (n : Nat) : Bool :=
  match k with
  | .status | .readConfig | .closeConfig | .restart | .planCommit | .stopAll | .armAttention =>
    n == 0
  | .start | .pause | .resume | .skip | .stop | .clear | .readChannel | .readFrame => n == 1
  | .setBudget | .setOvenTuning | .setLink | .planBegin | .quickLevel | .fetchNotices => n == 2
  | .adjust => n == 5
  | .setHeater => n == 6
  | .planStage => decide (6 ≤ n ∧ n ≤ 10)
  | .readStage => n == 0 || n == 2

/-- The configuration kinds (R167). -/
def isConfigKind (k : ReqKind) : Bool :=
  match k with
  | .setBudget | .setHeater | .setOvenTuning | .setLink | .closeConfig => true
  | .status | .readConfig | .restart | .planBegin | .planStage | .planCommit | .start | .pause
  | .resume | .skip | .stop | .clear | .adjust | .quickLevel | .stopAll | .readChannel | .readStage
  | .readFrame | .fetchNotices | .armAttention => false

/-- The operating-only kinds: PLAN BEGIN, START and QUICK LEVEL when their channel operand is 4 to 7
(R2, R167). -/
def isOperatingOnly (k : ReqKind) (body : List Byte) : Bool :=
  match k with
  | .planBegin | .start | .quickLevel => decide (4 ≤ num8 body 0 ∧ num8 body 0 ≤ 7)
  | .status | .readConfig | .setBudget | .setHeater | .setOvenTuning | .setLink | .closeConfig
  | .restart | .planStage | .planCommit | .pause | .resume | .skip | .stop | .clear | .adjust
  | .stopAll | .readChannel | .readStage | .readFrame | .fetchNotices | .armAttention => false

/-- The owner of a request acts on its operands (R161, Table 8-8). -/
def ownerActs (k : ReqKind) (body : List Byte) (s : State) : Answered :=
  match k with
  | .status => ownStatus s
  | .readConfig => ownReadConfig s
  | .setBudget => ownSetBudget (num16 body 0) s
  | .setHeater =>
    ownSetHeater (num8 body 0) (num8 body 1) (num16 body 2) (num8 body 4) (num8 body 5) s
  | .setOvenTuning => ownSetOvenTuning (num8 body 0) (num8 body 1) s
  | .setLink => ownSetLink (num8 body 0) (num8 body 1) s
  | .closeConfig => ownCloseConfig s
  | .restart => ownRestart s
  | .planBegin => ownPlanBegin (num8 body 0) (num8 body 1) s
  | .planStage => ownPlanStage (num8 body 0) body.tail s
  | .planCommit => ownPlanCommit s
  | .start => ownStart (num8 body 0) s
  | .pause => ownPause (num8 body 0) s
  | .resume => ownResume (num8 body 0) s
  | .skip => ownSkip (num8 body 0) s
  | .stop => ownStop (num8 body 0) s
  | .clear => ownClear (num8 body 0) s
  | .adjust => ownAdjust (num8 body 0) (num8 body 1) (num24 body 2) (int24 body 2) s
  | .quickLevel => ownQuickLevel (num8 body 0) (num8 body 1) s
  | .stopAll => ownStopAll s
  | .readChannel => ownReadChannel (num8 body 0) s
  | .readStage =>
    match body with
    | [] => ownReadStageNext s
    | _ :: _ => ownReadStage (num8 body 0) (num8 body 1) s
  | .readFrame => ownReadFrame (num8 body 0) s
  | .fetchNotices => ownFetchNotices (num8 body 0) (num8 body 1) s
  | .armAttention => ownArmAttention s

/-- The generic checks 1 to 5 of Table 8-3: the kind to hand to its owner, or the refusal (R167). -/
def genericCheck (kind : Byte) (body : List Byte) (s : State) : Except (Cause × Nat) ReqKind :=
  match reqKindOf kind.toNat with
  | none => .error (.unknownKind, 0)
  | some k =>
    if lengthFits k body.length = false then .error (.badLength, body.length)
    else if s.cfg.part = .locked ∧ k ≠ .status then .error (.locked, 0)
    else if s.cfg.part = .operating ∧ isConfigKind k = true then
      .error (.wrongState, partCode s.cfg.part)
    else if s.cfg.part = .configuring ∧ isOperatingOnly k body = true then .error (.notConfigured, 0)
    else .ok k

/-- RQH applies the generic checks and hands the request to its owner (R161, R167). -/
def decideRequest (r : Request) (s : State) : Answered :=
  match genericCheck r.kind r.body s with
  | .error (cause, detail) => refused cause detail s
  | .ok k => ownerActs k r.body s

/-! ## Replies -/

/-- The reply to a request (R164, R168): an acceptance carries KIND plus 0x80 and its body, a refusal
0x7F with the refused KIND, the cause and the detail. -/
def replyTo (r : Request) (a : Answer) (status : Byte) : Reply :=
  match a with
  | .accept body => { kind := r.kind + 0x80, tag := r.tag, linkStatus := status, body := body }
  | .refuse cause detail =>
    { kind := 0x7F, tag := r.tag, linkStatus := status
      body := [r.kind, byteOf (causeCode cause), byteOf detail] }

/-- The data characters of a reply, from LEN to SUM (R164, Table 8-6). -/
def replyChars (r : Reply) : List Byte :=
  let chars := [byteOf (r.body.length + 3), r.kind, r.tag, r.linkStatus] ++ r.body
  chars ++ [-(sum8 chars)]

/-- A character on the link, sorted by its ninth bit (R155). -/
inductive LinkChar where
  | address (value : Byte)
  | data (value : Byte)
  deriving DecidableEq, Repr

/-- A reply as TXD carries it: the address character 0x20, then the data characters (R164, Table 8-6). -/
def replyFrame (r : Reply) : List LinkChar := .address 0x20 :: (replyChars r).map .data

/-- The milliseconds that the sending of a reply takes: 11 bit times at 19,200 bit/s, which are 55/96 ms,
for each of its characters, rounded up (R155, R163, log 7). -/
def sendingMs (r : Reply) : Nat := ((replyFrame r).length * 55 + 95) / 96

/-- The delay that the part chooses for its next reply, 2 to 25 ms (R163, log 6). -/
def chosenDelay (drawn : Nat) : Nat := 2 + Config.freeReplyDelay drawn % 24

/-- RQH builds the reply from the state the request has left; the flags it reports are then cleared, and
the transmitter enters DELAY (R161, R163, R166). -/
def answerRequest (r : Request) (a : Answered) : State :=
  let reply := replyTo r a.answer (linkStatus a.state)
  let s := clearReported r.kind a.state
  (s.withLnk { s.lnk with
    executing := some r
    transmitter := .delay (chosenDelay s.drawn)
    reply := some reply }).withDrawn (s.drawn + 1)

/-- A request is taken whole (R161). A broadcast STOP ALL gets no reply and leaves the executing slot
empty (R162). -/
def takeRequest (r : Request) (s : State) : State :=
  match r.addr with
  | .unit => answerRequest r (decideRequest r s)
  | .broadcast => (decideRequest r s).state

/-- A well-formed request is placed in the slots (R160). -/
def placeRequest (r : Request) (s : State) : State :=
  match s.lnk.executing, s.lnk.waiting with
  | none, _ => takeRequest r s
  | some _, none => s.withLnk { s.lnk with waiting := some r }
  | some _, some _ => s.withLnk { s.lnk with dropped := true }

/-- A well-formed frame for this part restarts the supervision timer while OPERATING (R169). DESIGN
CHOICE (log 34): a STATUS too, so an expiry due at the same moment does not follow it, as R171 says, where
R180 has that expiry leave LINK-LOST-SEEN set for the next STATUS. -/
def restartSupervision (s : State) : State :=
  if s.cfg.part = .operating then
    s.withLnk { s.lnk with supervision := some (1000 * s.cfg.supervision) }
  else s

/-- A well-formed frame is complete (R159, R162): a broadcast frame other than STOP ALL with an empty
body is passed over. -/
def acceptFrame (r : Request) (s : State) : State :=
  let s := restartSupervision s
  match r.addr with
  | .unit => placeRequest r s
  | .broadcast => if r.kind = 0x20 ∧ r.body = [] then placeRequest r s else s

/-! ## The frame assembler -/

/-- A frame for this part is discarded (R157, R158). -/
def discardFrame (next : Assembler) (s : State) : State :=
  s.withLnk { s.lnk with assembler := next, gap := none, dropped := true }

/-- The frame being assembled, if any, is discarded (R158). -/
def abandonFrame (s : State) : State :=
  match s.lnk.assembler with
  | .assembling _ _ => discardFrame .idle s
  | .idle | .ignoring => s

/-- An address character (R156, R158). -/
def addressChar (a : Byte) (s : State) : State :=
  let s := abandonFrame s
  if a = s.lnk.unitAddress then
    s.withLnk { s.lnk with assembler := .assembling .unit [], gap := some 0 }
  else if a = 0x3F then
    s.withLnk { s.lnk with assembler := .assembling .broadcast [], gap := some 0 }
  else s.withLnk { s.lnk with assembler := .ignoring, gap := none }

/-- The frame is complete at its SUM: the checksum, then its request (R157, R159). -/
def completeFrame (addr : FrameAddr) (received : List Byte) (s : State) : State :=
  let s := s.withLnk { s.lnk with assembler := .idle, gap := none }
  if sum8 received = 0 then
    acceptFrame
      { addr := addr, kind := charAt received 1, tag := charAt received 2
        body := (received.drop 3).dropLast } s
  else s.withLnk { s.lnk with dropped := true }

/-- A data character (R156, R157). -/
def dataChar (d : Byte) (s : State) : State :=
  match s.lnk.assembler with
  | .idle | .ignoring => s
  | .assembling addr received =>
    let received := received ++ [d]
    let len := num8 received 0
    if len < 2 ∨ 26 < len then discardFrame .ignoring s
    else if received.length = len + 2 then completeFrame addr received s
    else s.withLnk { s.lnk with assembler := .assembling addr received, gap := some 0 }

/-- A whole well-formed request frame arrives at one moment (log 1): it ends a frame being assembled
(R158). A body that no frame can carry is discarded at its LEN character (R157). -/
def arriveRequest (addr : FrameAddr) (kind tag : Byte) (body : List Byte) (s : State) : State :=
  let s := abandonFrame s
  if 24 < body.length then discardFrame .ignoring s
  else
    acceptFrame { addr := addr, kind := kind, tag := tag, body := body }
      (s.withLnk { s.lnk with assembler := .idle, gap := none })

/-- The characters of a request frame after its address character (Table 8-5). -/
def requestChars (kind tag : Byte) (body : List Byte) : List Byte :=
  let chars := [byteOf (body.length + 2), kind, tag] ++ body
  chars ++ [-(sum8 chars)]

/-! ## The transmitter and link supervision -/

/-- The reply delay has run out (R163). -/
def startReply (s : State) : State :=
  match s.lnk.transmitter, s.lnk.reply with
  | .delay _, some r => s.withLnk { s.lnk with transmitter := .sending (sendingMs r) }
  | _, _ => s

/-- The reply just sent accepted a RESTART (R163, R182). -/
def acceptedRestart (s : State) : Bool :=
  s.lnk.reply.any (fun r => decide (r.kind = 0x88)) && decide (s.cfg.part ≠ .locked)

/-- The waiting request, if any, moves to the executing slot and is taken (R160). -/
def takeWaiting (s : State) : State :=
  match s.lnk.waiting with
  | none => s
  | some r => takeRequest r (s.withLnk { s.lnk with waiting := none })

/-- The SUM of a reply has been sent (R163). -/
def endReply (s : State) : State :=
  match s.lnk.transmitter with
  | .sending _ =>
    if acceptedRestart s then requestedRestart s
    else
      takeWaiting (s.withLnk { s.lnk with executing := none, transmitter := .idle, reply := none })
  | .idle | .delay _ => s

/-- Link loss at one channel (R24). -/
def linkPause (c : Channel) (s : State) : State :=
  if (s.chan c).state = .running then pauseChannel c s else s

/-- Link supervision expires (R170). -/
def loseLink (s : State) : State :=
  let s := s.withLnk { s.lnk with supervision := none }
  let s := [Channel.z1, .z2, .ov, .gr].foldl (fun t c => linkPause c t) s
  let s := raise linkLostNotice s
  s.withLnk { s.lnk with linkLostSeen := true }

end Sys2Proof.Machine
end

