-- ==== Sys2Proof/Machine/LinkCommands.lean ====
section
/-! DEFINITION. The meanings of the reset, the characters, the transmitter and link supervision. -/

namespace Sys2Proof.Machine

open Sys2Proof

/-- POWER_ON_RESET (R175). -/
def execPowerOnReset (p : ResetPins) (s : State) : Result := .next (powerOn p s)

/-- ADDRESS_CHARACTER (R156, R158). -/
def execAddressCharacter (a : Byte) (s : State) : Result := .next (addressChar a s)

/-- DATA_CHARACTER (R157, R159). -/
def execDataCharacter (d : Byte) (s : State) : Result := .next (dataChar d s)

/-- FRAMING_ERROR (R155, R158). -/
def execFramingError (s : State) : Result := .next (abandonFrame s)

/-- GAP_TIMEOUT (R158): it acts while the gap timer runs. -/
def execGapTimeout (s : State) : Result :=
  .next (if s.lnk.gap.isSome then abandonFrame s else s)

/-- REPLY_START (R163): it acts while the transmitter is in DELAY. -/
def execReplyStart (s : State) : Result := .next (startReply s)

/-- REPLY_SENT (R160, R163, R182): it acts while the transmitter is SENDING. -/
def execReplySent (s : State) : Result := .next (endReply s)

/-- LINK_SUPERVISION_EXPIRY (R170): it acts while the supervision timer runs, whatever it shows (log 2).
Commanded after a STATUS it thus leaves LINK-LOST-SEEN set, as R180 says (log 34). -/
def execLinkSupervisionExpiry (s : State) : Result :=
  .next (if s.lnk.supervision.isSome then loseLink s else s)

end Sys2Proof.Machine
end

