-- ==== Sys2Proof/Machine/OutputCommands.lean ====
section
/-! DEFINITION. The meanings of the load senses, of OUT's timers and of the spacing timer. -/

namespace Sys2Proof.Machine

open Sys2Proof

/-- LOAD_SENSE_CHANGE (R131): when the sense agrees again the run returns to 0. -/
def execLoadSenseChange (h : Heater) (present : Bool) (s : State) : Result :=
  .next
    (let s := s.withPins { s.pins with loadSense := s.pins.loadSense.set h present }
    if disagrees s h then s else s.setHeaterOut h { s.heaterOut h with run := 0 })

/-- SETTLING_END (R130): it acts while the heater is SETTLING. -/
def execSettlingEnd (h : Heater) (s : State) : Result :=
  .next
    (match (s.heaterOut h).check with
      | .settling _ => s.setHeaterOut h { s.heaterOut h with check := .watching, run := 0 }
      | .idle | .watching => s)

/-- PERSISTENCE_RUN_EXPIRY (R131, R133, R135, R137, R138): it acts while the heater's sense disagrees. -/
def execPersistenceRunExpiry (h : Heater) (also : List Heater) (s : State) : Result :=
  .next (runReached h also s)

/-- CONTACTOR_PROVING_EXPIRY (R138). -/
def execContactorProvingExpiry (s : State) : Result := .next (s.withOut { s.out with proving := none })

/-- SPACING_TIMER_EXPIRY (R151): it acts while the spacing timer runs. -/
def execSpacingTimerExpiry (s : State) : Result :=
  .next
    (if s.ntq.spacing.isSome then assertionCheck (s.withNtq { s.ntq with spacing := none }) else s)

end Sys2Proof.Machine
end

