-- ==== Sys2Proof/Machine/OvenCommands.lean ====
section
/-! DEFINITION. The meanings of the probe readings and of the oven door. -/

namespace Sys2Proof.Machine

open Sys2Proof

/-! ## The probe -/

/-- The last four valid readings, oldest first (R78). -/
def pushReading (t : Nat) (buffer : List Nat) : List Nat := (buffer ++ [t]).drop (buffer.length - 3)

/-- A valid reading (R78): the fault clear (R81), the target (R87), the overshoot cut (R91) and the
cooling fan (R97), each in this event. R78 lists the four and states no order: DESIGN CHOICE (log 31):
they are taken in the order of that list, so the cut checks the stage and setpoint the target leaves. -/
def validReading (t : Nat) (s : State) : State :=
  let count := s.ovr.errorCounter - 1
  let clears := s.ovr.fault && decide (count = 0)
  let s := s.withOvr { s.ovr with
    buffer := pushReading t s.ovr.buffer
    errorCounter := count
    fault := s.ovr.fault && !clears }
  let s := if clears then raise (probeNotice 2 0) s else s
  evalCoolingFanAtReading (overshootCut (targetCheck s))

/-- An invalid reading (R79), with the probe fault it may set (R80). -/
def invalidReading (s : State) : State :=
  let count := min 16 (s.ovr.errorCounter + 2)
  let faults := !s.ovr.fault && decide (8 ≤ count)
  let s := s.withOvr { s.ovr with errorCounter := count, fault := s.ovr.fault || faults }
  if faults then reportFault .ov .probe (raise (probeNotice 1 count) s) else s

/-- PROBE_READING (R77): a reading taken while the probe timer runs, which then starts its next period. -/
def execProbeReading (reading : Int) (s : State) : Result :=
  .next
    (let s := s.withPins { s.pins with prb := reading }
    if s.ovr.probeTimer.isSome then
      let s := s.withOvr { s.ovr with probeTimer := some 1000 }
      if 0 ≤ reading ∧ reading ≤ 330 then validReading reading.toNat s else invalidReading s
    else s)

/-! ## The door -/

def withDoor (level : DoorPos) (s : State) : State := s.withPins { s.pins with door := level }

/-- DOOR_INPUT_CHANGE (R92): the debounce starts again, or returns to idle. -/
def execDoorInputChange (level : DoorPos) (s : State) : Result :=
  .next
    (if level = s.pins.door then s
    else
      let s := withDoor level s
      if s.out.locked then s
      else s.withOvr { s.ovr with
        doorDebounce := if level = s.ovr.doorState then none else some 0 })

/-- The door state takes the level that DOOR has shown for 50 ms (R92, log 10). -/
def takeDoor (level : DoorPos) (s : State) : State :=
  let s := withDoor level s
  s.withOvr { s.ovr with doorState := level, doorDebounce := none }

/-- DOOR_OPENED (R93): HRING is dropped, the fan goes off and the lamp on. -/
def execDoorOpened (s : State) : Result :=
  .next
    (if s.out.locked = true ∨ s.ovr.doorState = .opened then s
    else
      let s := handDemand .ring 0 (takeDoor .opened s)
      s.withOvr { s.ovr with ovenFan := false, lamp := true })

/-- DOOR_CLOSED (R94). -/
def execDoorClosed (s : State) : Result :=
  .next
    (if s.out.locked = true ∨ s.ovr.doorState = .shut then s
    else refreshOven (takeDoor .shut s))

end Sys2Proof.Machine
end

