-- ==== Sys2Proof/Machine/PlanCommands.lean ====
section
/-! DEFINITION. The meanings of the load context's timeout, of the seconds of the channels, and of the
boundaries of the power frame. -/

namespace Sys2Proof.Machine

open Sys2Proof

/-- LOAD_IDLE_TIMEOUT (R12): it acts while the idle timer of an open context runs. -/
def execLoadIdleTimeout (s : State) : Result :=
  .next (if s.pst.load.any (fun l => l.idle.isSome) then closeLoad s else s)

/-- A completion of a running second timer starts the next second (R29). -/
def nextSecond (c : Channel) (s : State) : State :=
  s.setChan c { s.chan c with secondTimer := some 0 }

/-- CHANNEL_SECOND (R30): it acts while the second timer of a RUNNING channel runs. -/
def execChannelSecond (c : Channel) (s : State) : Result :=
  .next
    (if (s.chan c).state = .running ∧ (s.chan c).secondTimer.isSome = true then
      channelTick c (nextSecond c s)
    else s)

/-- STAGE_ELAPSED (R30, R33): the completion at which the remaining time of a timed stage reaches 0. It
acts while the second timer of a RUNNING channel runs, whatever remaining time it finds (log 2). -/
def execStageElapsed (c : Channel) (s : State) : Result :=
  .next
    (if (s.chan c).state = .running ∧ (s.chan c).secondTimer.isSome = true ∧
        (s.chan c).remaining ≠ .untimed then
      let s := nextSecond c s
      sync c (endCurrent c .elapsed (s.setChan c { s.chan c with remaining := .timed 0 }))
    else s)

/-- PAUSE_TIMER_SECOND (R36): it acts while the pause timer runs; at 0 the pause expires in the event. -/
def execPauseTimerSecond (c : Channel) (s : State) : Result :=
  .next
    (match (s.chan c).pauseTimer with
      | none => s
      | some t =>
        if t.left ≤ 1 then expirePause c s
        else s.setChan c { s.chan c with pauseTimer := some { left := t.left - 1, phase := 0 } })

/-- PAUSE_EXPIRY (R36): it acts while the pause timer runs (log 2). -/
def execPauseExpiry (c : Channel) (s : State) : Result :=
  .next (if (s.chan c).pauseTimer.isSome then expirePause c s else s)

/-- SLOT_BOUNDARY (R53): a slot boundary that is no frame boundary; after slot 31 there is none. -/
def execSlotBoundary (s : State) : Result :=
  .next (if s.pfs.sched = .running ∧ s.pfs.slot ≠ 31 then slotEvent s else s)

/-- FRAME_BOUNDARY (R52, R54): it acts while the scheduler is STARTING or RUNNING (log 2). -/
def execFrameBoundary (s : State) : Result :=
  .next (if s.pfs.sched = .stopped then s else frameEvent s)

end Sys2Proof.Machine
end

