-- ==== Sys2Proof/Machine/RequestCommands.lean ====
section
/-! DEFINITION. The meanings of the request commands: each is the arrival of one whole well-formed frame
at the unit address with the characters of its operands (Table 8-8, log 1). -/

namespace Sys2Proof.Machine

open Sys2Proof

/-- The two characters of a 16-bit operand (R172). -/
def chars16 (w : BitVec 16) : List Byte := be16 w.toNat

/-- The three characters of a 24-bit operand (R172). -/
def chars24 (w : BitVec 24) : List Byte := be24 w.toNat

/-- UNKNOWN_KIND_REQUEST (R167). -/
def execUnknownKindRequest (kind tag : Byte) (body : List Byte) (s : State) : Result :=
  .next (arriveRequest .unit kind tag body s)

/-- STATUS (R180). -/
def execStatus (tag : Byte) (s : State) : Result := .next (arriveRequest .unit 0x01 tag [] s)

/-- READ CONFIG (R181). -/
def execReadConfig (tag : Byte) (s : State) : Result := .next (arriveRequest .unit 0x02 tag [] s)

/-- SET BUDGET (R176). -/
def execSetBudget (tag : Byte) (budget : BitVec 16) (s : State) : Result :=
  .next (arriveRequest .unit 0x03 tag (chars16 budget) s)

/-- SET HEATER (R177). -/
def execSetHeater (tag heater installed : Byte) (rating : BitVec 16) (rank offset : Byte)
    (s : State) : Result :=
  .next (arriveRequest .unit 0x04 tag ([heater, installed] ++ chars16 rating ++ [rank, offset]) s)

/-- SET OVEN TUNING (R176). -/
def execSetOvenTuning (tag band overshoot : Byte) (s : State) : Result :=
  .next (arriveRequest .unit 0x05 tag [band, overshoot] s)

/-- SET LINK (R176). -/
def execSetLink (tag supervision spacing : Byte) (s : State) : Result :=
  .next (arriveRequest .unit 0x06 tag [supervision, spacing] s)

/-- CLOSE CONFIG (R178, R179). -/
def execCloseConfig (tag : Byte) (s : State) : Result := .next (arriveRequest .unit 0x07 tag [] s)

/-- RESTART (R182). -/
def execRestart (tag : Byte) (s : State) : Result := .next (arriveRequest .unit 0x08 tag [] s)

/-- PLAN BEGIN (R9). -/
def execPlanBegin (tag channel count : Byte) (s : State) : Result :=
  .next (arriveRequest .unit 0x10 tag [channel, count] s)

/-- PLAN STAGE (R10, R11). -/
def execPlanStage (tag index : Byte) (record : List Byte) (s : State) : Result :=
  .next (arriveRequest .unit 0x11 tag (index :: record) s)

/-- PLAN COMMIT (R13, R14). -/
def execPlanCommit (tag : Byte) (s : State) : Result := .next (arriveRequest .unit 0x12 tag [] s)

/-- START (R15). -/
def execStart (tag channel : Byte) (s : State) : Result :=
  .next (arriveRequest .unit 0x18 tag [channel] s)

/-- PAUSE (R16). -/
def execPause (tag channel : Byte) (s : State) : Result :=
  .next (arriveRequest .unit 0x19 tag [channel] s)

/-- RESUME (R17). -/
def execResume (tag channel : Byte) (s : State) : Result :=
  .next (arriveRequest .unit 0x1A tag [channel] s)

/-- SKIP (R18). -/
def execSkip (tag channel : Byte) (s : State) : Result :=
  .next (arriveRequest .unit 0x1B tag [channel] s)

/-- STOP (R19). -/
def execStop (tag channel : Byte) (s : State) : Result :=
  .next (arriveRequest .unit 0x1C tag [channel] s)

/-- CLEAR (R20). -/
def execClear (tag channel : Byte) (s : State) : Result :=
  .next (arriveRequest .unit 0x1D tag [channel] s)

/-- ADJUST TIME (R42 to R45): adjustment code 0. -/
def execAdjustTime (tag channel : Byte) (delta : BitVec 24) (s : State) : Result :=
  .next (arriveRequest .unit 0x1E tag ([channel, 0] ++ chars24 delta) s)

/-- ADJUST LEVEL (R42, R46): adjustment code 1. -/
def execAdjustLevel (tag channel : Byte) (level : BitVec 24) (s : State) : Result :=
  .next (arriveRequest .unit 0x1E tag ([channel, 1] ++ chars24 level) s)

/-- ADJUST SETPOINT (R42, R47): adjustment code 2. -/
def execAdjustSetpoint (tag channel : Byte) (setpoint : BitVec 24) (s : State) : Result :=
  .next (arriveRequest .unit 0x1E tag ([channel, 2] ++ chars24 setpoint) s)

/-- QUICK LEVEL (R22). -/
def execQuickLevel (tag channel level : Byte) (s : State) : Result :=
  .next (arriveRequest .unit 0x1F tag [channel, level] s)

/-- STOP ALL, to the unit address or to the broadcast address (R21, R162). -/
def execStopAll (broadcast : Bool) (tag : Byte) (s : State) : Result :=
  .next (arriveRequest (if broadcast then .broadcast else .unit) 0x20 tag [] s)

/-- READ CHANNEL (R28). -/
def execReadChannel (tag channel : Byte) (s : State) : Result :=
  .next (arriveRequest .unit 0x28 tag [channel] s)

/-- READ STAGE (R27). -/
def execReadStage (tag channel index : Byte) (s : State) : Result :=
  .next (arriveRequest .unit 0x29 tag [channel, index] s)

/-- READ STAGE NEXT (R27): READ STAGE with an empty body. -/
def execReadStageNext (tag : Byte) (s : State) : Result := .next (arriveRequest .unit 0x29 tag [] s)

/-- READ FRAME (R73, R74). -/
def execReadFrame (tag heater : Byte) (s : State) : Result :=
  .next (arriveRequest .unit 0x2A tag [heater] s)

/-- FETCH NOTICES (R146). -/
def execFetchNotices (tag maximum rearm : Byte) (s : State) : Result :=
  .next (arriveRequest .unit 0x30 tag [maximum, rearm] s)

/-- ARM ATTENTION (R148). -/
def execArmAttention (tag : Byte) (s : State) : Result := .next (arriveRequest .unit 0x31 tag [] s)

end Sys2Proof.Machine
end

