-- ==== Sys2Proof/Machine/Dispatch.lean ====
section
/-! DEFINITION. The meaning of every command, one direct call for each. -/

namespace Sys2Proof.Machine

open Sys2Proof

/-- What a command does to everything but the queue of waiting commands. -/
def exec (i : Instr) (s : State) : Host.Outcome State Fault Refusal :=
  match i with
  | .powerOnReset pins => Sys2Proof.Machine.execPowerOnReset pins s
  | .addressCharacter a => Sys2Proof.Machine.execAddressCharacter a s
  | .dataCharacter d => Sys2Proof.Machine.execDataCharacter d s
  | .framingError => Sys2Proof.Machine.execFramingError s
  | .gapTimeout => Sys2Proof.Machine.execGapTimeout s
  | .replyStart => Sys2Proof.Machine.execReplyStart s
  | .replySent => Sys2Proof.Machine.execReplySent s
  | .linkSupervisionExpiry => Sys2Proof.Machine.execLinkSupervisionExpiry s
  | .unknownKindRequest kind tag body => Sys2Proof.Machine.execUnknownKindRequest kind tag body s
  | .status tag => Sys2Proof.Machine.execStatus tag s
  | .readConfig tag => Sys2Proof.Machine.execReadConfig tag s
  | .setBudget tag budget => Sys2Proof.Machine.execSetBudget tag budget s
  | .setHeater tag heater installed rating rank offset => Sys2Proof.Machine.execSetHeater tag heater installed rating rank offset s
  | .setOvenTuning tag band overshoot => Sys2Proof.Machine.execSetOvenTuning tag band overshoot s
  | .setLink tag supervision spacing => Sys2Proof.Machine.execSetLink tag supervision spacing s
  | .closeConfig tag => Sys2Proof.Machine.execCloseConfig tag s
  | .restart tag => Sys2Proof.Machine.execRestart tag s
  | .planBegin tag channel count => Sys2Proof.Machine.execPlanBegin tag channel count s
  | .planStage tag index record => Sys2Proof.Machine.execPlanStage tag index record s
  | .planCommit tag => Sys2Proof.Machine.execPlanCommit tag s
  | .loadIdleTimeout => Sys2Proof.Machine.execLoadIdleTimeout s
  | .start tag channel => Sys2Proof.Machine.execStart tag channel s
  | .pause tag channel => Sys2Proof.Machine.execPause tag channel s
  | .resume tag channel => Sys2Proof.Machine.execResume tag channel s
  | .skip tag channel => Sys2Proof.Machine.execSkip tag channel s
  | .stop tag channel => Sys2Proof.Machine.execStop tag channel s
  | .clear tag channel => Sys2Proof.Machine.execClear tag channel s
  | .adjustTime tag channel delta => Sys2Proof.Machine.execAdjustTime tag channel delta s
  | .adjustLevel tag channel level => Sys2Proof.Machine.execAdjustLevel tag channel level s
  | .adjustSetpoint tag channel setpoint => Sys2Proof.Machine.execAdjustSetpoint tag channel setpoint s
  | .quickLevel tag channel level => Sys2Proof.Machine.execQuickLevel tag channel level s
  | .stopAll broadcast tag => Sys2Proof.Machine.execStopAll broadcast tag s
  | .readChannel tag channel => Sys2Proof.Machine.execReadChannel tag channel s
  | .readStage tag channel index => Sys2Proof.Machine.execReadStage tag channel index s
  | .readStageNext tag => Sys2Proof.Machine.execReadStageNext tag s
  | .readFrame tag heater => Sys2Proof.Machine.execReadFrame tag heater s
  | .fetchNotices tag maximum rearm => Sys2Proof.Machine.execFetchNotices tag maximum rearm s
  | .armAttention tag => Sys2Proof.Machine.execArmAttention tag s
  | .channelSecond c => Sys2Proof.Machine.execChannelSecond c s
  | .stageElapsed c => Sys2Proof.Machine.execStageElapsed c s
  | .pauseTimerSecond c => Sys2Proof.Machine.execPauseTimerSecond c s
  | .pauseExpiry c => Sys2Proof.Machine.execPauseExpiry c s
  | .slotBoundary => Sys2Proof.Machine.execSlotBoundary s
  | .frameBoundary => Sys2Proof.Machine.execFrameBoundary s
  | .probeReading reading => Sys2Proof.Machine.execProbeReading reading s
  | .doorInputChange level => Sys2Proof.Machine.execDoorInputChange level s
  | .doorOpened => Sys2Proof.Machine.execDoorOpened s
  | .doorClosed => Sys2Proof.Machine.execDoorClosed s
  | .knobInputChange n level => Sys2Proof.Machine.execKnobInputChange n level s
  | .knobOpened n => Sys2Proof.Machine.execKnobOpened n s
  | .knobClosed n => Sys2Proof.Machine.execKnobClosed n s
  | .restTimerExpiry => Sys2Proof.Machine.execRestTimerExpiry s
  | .flameSenseChange n shown => Sys2Proof.Machine.execFlameSenseChange n shown s
  | .flameProven n => Sys2Proof.Machine.execFlameProven n s
  | .attemptFailed n => Sys2Proof.Machine.execAttemptFailed n s
  | .retryGapExpiry n => Sys2Proof.Machine.execRetryGapExpiry n s
  | .flameLost n => Sys2Proof.Machine.execFlameLost n s
  | .holdTailEnd => Sys2Proof.Machine.execHoldTailEnd s
  | .loadSenseChange h present => Sys2Proof.Machine.execLoadSenseChange h present s
  | .settlingEnd h => Sys2Proof.Machine.execSettlingEnd h s
  | .persistenceRunExpiry h also => Sys2Proof.Machine.execPersistenceRunExpiry h also s
  | .contactorProvingExpiry => Sys2Proof.Machine.execContactorProvingExpiry s
  | .spacingTimerExpiry => Sys2Proof.Machine.execSpacingTimerExpiry s

end Sys2Proof.Machine
end

