-- ==== Sys2Proof/Safety.lean ====
section
/-! DEFINITION. What counts as a safe state, in the terms the statements use: the output lines, and the
invariants that every step keeps. -/

namespace Sys2Proof.Safety

open Sys2Proof Sys2Proof.Machine

/-! ## The output lines -/

/-- GVn (R102). -/
def valve (s : State) (n : Burner) : Bool := valveOpen (s.burner n)

/-- SPK-EN (R102). -/
def sparkEnable (s : State) : Bool := s.bsv.owner.isSome

/-- SPK-SEL1 and SPK-SEL0 as a number (R102). -/
def sparkSelect (s : State) : Nat :=
  match s.bsv.owner with
  | some n => burnerNumber n - 1
  | none => 0

/-- MC is high (R128). -/
def contactorLine (s : State) : Bool := decide (s.out.contactor = .closed)

/-- The characters of the reply that TXD sends back to back while the transmitter is SENDING; TXD is at
its idle level otherwise (R163, R164). -/
def transmitted (s : State) : List LinkChar :=
  match s.lnk.transmitter, s.lnk.reply with
  | .sending _, some r => replyFrame r
  | _, _ => []

/-- Every output of Table 6-5 but ATTN and TXD is off (R140). -/
def outputsOff (s : State) : Prop :=
  (∀ h : Heater, (s.heaterOut h).drive = false) ∧ contactorLine s = false ∧
    (∀ n : Burner, valve s n = false) ∧ sparkEnable s = false ∧ sparkSelect s = 0 ∧
    s.ovr.ovenFan = false ∧ s.ovr.lamp = false ∧ s.ovr.coolingFan = false

/-! ## The stage pool and the plans -/

/-- The records held by the plans of all channels (R6). -/
def ownedRecords (s : State) : Nat := (allChannels.map (fun c => (s.chan c).plan.length)).sum

/-- R6: each of the 40 records is free or owned by one plan, no plan exceeds 12 records, a channel in
EMPTY holds none; R8: the staged records are at most the expected count, itself at most 12. -/
structure PoolInv (s : State) : Prop where
  total : s.pst.free + ownedRecords s = 40
  bound : ∀ c : Channel, (s.chan c).plan.length ≤ 12
  empty : ∀ c : Channel, (s.chan c).state = .empty → (s.chan c).plan = []
  staged : ∀ l ∈ s.pst.load, l.staged.length ≤ l.expected ∧ l.expected ≤ 12

/-- The remaining time of a channel is within the duration of its current stage. -/
def remainingFits (r : ChannelRec) : Prop :=
  ∀ p ∈ r.current, ∀ n : Nat, r.remaining = .timed n → n ≤ p.spec.duration

/-- R43: a channel's remaining time in its current timed stage never exceeds that stage's duration, and
no duration exceeds 86,399 s. -/
structure TimeInv (s : State) : Prop where
  fits : ∀ c : Channel, remainingFits (s.chan c)
  plans : ∀ c : Channel, ∀ p ∈ (s.chan c).plan, p.spec.duration ≤ 86399
  staged : ∀ l ∈ s.pst.load, ∀ p ∈ l.staged, p.duration ≤ 86399

/-! ## The notice queue -/

/-- R145: at most 16 notices; R150: ATTN is asserted only while the queue is non-empty. -/
structure NoticeInv (s : State) : Prop where
  bound : s.ntq.queue.length ≤ 16
  attn : s.ntq.attn = true → s.ntq.queue ≠ []

/-! ## The burners -/

/-- R103: OFF exactly when the knob state is CLOSED; R106: the queue holds each burner in QUEUED once;
R108: the generator's owner is the one burner in IGNITING. -/
structure BurnerInv (s : State) : Prop where
  off : ∀ n : Burner, (s.burner n).state = .off ↔ (s.burner n).knob = .closed
  distinct : s.bsv.queue.Nodup
  queued : ∀ n : Burner, n ∈ s.bsv.queue ↔ (s.burner n).state = .queued
  owner : ∀ n : Burner, s.bsv.owner = some n ↔ (s.burner n).state = .igniting

/-! ## The probe -/

/-- R81: the error counter stays within 0 to 16 and the fault flag is set only while it is above 0;
R78: the buffer holds at most four readings of 0 to 330 degrees. -/
structure ProbeInv (s : State) : Prop where
  counter : s.ovr.errorCounter ≤ 16
  fault : s.ovr.fault = true → 0 < s.ovr.errorCounter
  buffer : s.ovr.buffer.length ≤ 4
  readings : ∀ t ∈ s.ovr.buffer, t ≤ 330

/-! ## The power frame -/

/-- The rating that a heater's placement draws in slot i. -/
def placedWatts (s : State) (i : Fin 32) (h : Heater) : Nat :=
  if (s.install h).installed = true ∧ (s.heater h).placed.get i = true then (s.install h).rating
  else 0

/-- The ratings of the heaters placed in slot i (R60). -/
def slotLoad (s : State) (i : Fin 32) : Nat := (allHeaters.map (placedWatts s i)).sum

/-- The ratings of the heaters whose relays are commanded on (R60). -/
def relayLoad (s : State) : Nat :=
  (allHeaters.map (fun h => if (s.heater h).relay then (s.install h).rating else 0)).sum

/-- R60: in every slot the placements and the capacity left make up at most the budget; R70: a relay is
commanded on only while the part is OPERATING, the contactor closed, the supply-off flag clear and the
heater installed, placed in the current slot and not FAILED. The other clauses are what these rest on:
when the scheduler runs (R52, R72), what a hold leaves (R68), where the contactor stands (R128) and the
range of a rank (R173). -/
structure PowerInv (s : State) : Prop where
  load : s.pfs.sched = .running →
    ∀ i : Fin 32, slotLoad s i + s.pfs.capacity.get i ≤ s.cfg.budget.getD 0
  relay : ∀ h : Heater, (s.heater h).relay = true →
    s.pfs.sched = .running ∧ (s.install h).installed = true ∧
      (s.heater h).placed.get s.pfs.slot = true ∧ (s.heater h).hold = .none
  operating : s.pfs.sched ≠ .stopped → s.cfg.part = .operating
  contactor : s.out.contactor = .closed → s.cfg.part = .operating
  closed : s.pfs.sched ≠ .stopped → s.out.supplyOff = false → s.out.contactor = .closed
  configuring : s.cfg.part = .configuring → s.out.supplyOff = false
  failed : ∀ h : Heater, (s.heaterOut h).failed = true → (s.heater h).hold ≠ .none
  supply : s.out.supplyOff = true →
    ∀ h : Heater, (s.install h).installed = true → (s.heater h).hold ≠ .none
  held : ∀ h : Heater, (s.heater h).hold ≠ .none → (s.heater h).frame = 0
  unplaced : ∀ h : Heater, (s.heater h).frame = 0 → (s.heater h).placed = noSlots
  asked : s.pfs.sched = .running → ∀ h : Heater, (s.install h).installed = true →
    (s.heater h).requested = 0 → (s.heater h).frame = 0
  ranks : ∀ h : Heater, (s.install h).rank ≤ 6

/-! ## LOCKED -/

/-- A burner after the entry to LOCKED (R125). -/
structure BurnerAtRest (b : BurnerRec) : Prop where
  state : b.state = .off ∨ b.state = .waitClose
  debounce : b.debounce = none
  attempt : b.attemptTimer = none
  proving : b.proving = none
  gap : b.gap = none
  flame : b.flameLoss = .stopped

/-- R139, R140: while the part is LOCKED every output is off and no timer of OUT, PFS, OVR, BSV, PLR,
PST, NTQ or of link supervision runs. -/
structure LockedInv (s : State) : Prop where
  off : s.cfg.part = .locked → outputsOff s
  latch : s.cfg.part = .locked → s.out.locked = true ∧ s.out.check = false ∧ s.out.proving = none
  heaters : s.cfg.part = .locked →
    ∀ h : Heater, (s.heaterOut h).check = .idle ∧ (s.heaterOut h).run = 0
  frame : s.cfg.part = .locked → s.pfs.sched = .stopped ∧ s.pfs.slotTimer = none ∧
    ∀ h : Heater, (s.heater h).relay = false
  oven : s.cfg.part = .locked → s.ovr.probeTimer = none ∧ s.ovr.doorDebounce = none
  burners : s.cfg.part = .locked → s.bsv.queue = [] ∧ s.bsv.owner = none ∧ s.bsv.rest = none ∧
    s.bsv.hold = .closed ∧ ∀ n : Burner, BurnerAtRest (s.burner n)
  plans : s.cfg.part = .locked → (∀ c : Channel, (s.chan c).secondTimer = none ∧
    (s.chan c).pauseTimer = none) ∧ ∀ l ∈ s.pst.load, l.idle = none
  notices : s.cfg.part = .locked → s.ntq.frozen = true ∧ s.ntq.spacing = none
  link : s.cfg.part = .locked → s.lnk.supervision = none

end Sys2Proof.Safety
end

