-- ==== Sys2Proof/Claims.lean ====
section
/-! DEFINITION. The words in which the statements are written: the frame a request command is, what a
frame leaves at the link, what a reply leaves, and what the stages of a plan are. -/

namespace Sys2Proof.Claims

open Sys2Proof Sys2Proof.Machine

/-! ## Requests and their frames -/

/-- The frame that a request command is (Tables 8-7 and 8-8): its address, KIND, TAG and body; none for
a command that is no request. -/
def requestFrame : Instr → Option Request
  | .unknownKindRequest kind tag body => some ⟨.unit, kind, tag, body⟩
  | .status tag => some ⟨.unit, 0x01, tag, []⟩
  | .readConfig tag => some ⟨.unit, 0x02, tag, []⟩
  | .setBudget tag budget => some ⟨.unit, 0x03, tag, be16 budget.toNat⟩
  | .setHeater tag heater installed rating rank offset =>
    some ⟨.unit, 0x04, tag, [heater, installed] ++ be16 rating.toNat ++ [rank, offset]⟩
  | .setOvenTuning tag band overshoot => some ⟨.unit, 0x05, tag, [band, overshoot]⟩
  | .setLink tag supervision spacing => some ⟨.unit, 0x06, tag, [supervision, spacing]⟩
  | .closeConfig tag => some ⟨.unit, 0x07, tag, []⟩
  | .restart tag => some ⟨.unit, 0x08, tag, []⟩
  | .planBegin tag channel count => some ⟨.unit, 0x10, tag, [channel, count]⟩
  | .planStage tag index record => some ⟨.unit, 0x11, tag, index :: record⟩
  | .planCommit tag => some ⟨.unit, 0x12, tag, []⟩
  | .start tag channel => some ⟨.unit, 0x18, tag, [channel]⟩
  | .pause tag channel => some ⟨.unit, 0x19, tag, [channel]⟩
  | .resume tag channel => some ⟨.unit, 0x1A, tag, [channel]⟩
  | .skip tag channel => some ⟨.unit, 0x1B, tag, [channel]⟩
  | .stop tag channel => some ⟨.unit, 0x1C, tag, [channel]⟩
  | .clear tag channel => some ⟨.unit, 0x1D, tag, [channel]⟩
  | .adjustTime tag channel delta => some ⟨.unit, 0x1E, tag, [channel, 0] ++ be24 delta.toNat⟩
  | .adjustLevel tag channel level => some ⟨.unit, 0x1E, tag, [channel, 1] ++ be24 level.toNat⟩
  | .adjustSetpoint tag channel setpoint =>
    some ⟨.unit, 0x1E, tag, [channel, 2] ++ be24 setpoint.toNat⟩
  | .quickLevel tag channel level => some ⟨.unit, 0x1F, tag, [channel, level]⟩
  | .stopAll broadcast tag => some ⟨if broadcast then .broadcast else .unit, 0x20, tag, []⟩
  | .readChannel tag channel => some ⟨.unit, 0x28, tag, [channel]⟩
  | .readStage tag channel index => some ⟨.unit, 0x29, tag, [channel, index]⟩
  | .readStageNext tag => some ⟨.unit, 0x29, tag, []⟩
  | .readFrame tag heater => some ⟨.unit, 0x2A, tag, [heater]⟩
  | .fetchNotices tag maximum rearm => some ⟨.unit, 0x30, tag, [maximum, rearm]⟩
  | .armAttention tag => some ⟨.unit, 0x31, tag, []⟩
  | .powerOnReset _ | .addressCharacter _ | .dataCharacter _ | .framingError | .gapTimeout
  | .replyStart | .replySent | .linkSupervisionExpiry | .loadIdleTimeout | .channelSecond _
  | .stageElapsed _ | .pauseTimerSecond _ | .pauseExpiry _ | .slotBoundary | .frameBoundary
  | .probeReading _ | .doorInputChange _ | .doorOpened | .doorClosed | .knobInputChange _ _
  | .knobOpened _ | .knobClosed _ | .restTimerExpiry | .flameSenseChange _ _ | .flameProven _
  | .attemptFailed _ | .retryGapExpiry _ | .flameLost _ | .holdTailEnd | .loadSenseChange _ _
  | .settlingEnd _ | .persistenceRunExpiry _ _ | .contactorProvingExpiry | .spacingTimerExpiry => none

/-- The address character of a frame (R156). -/
def addressOf (s : State) : FrameAddr → Byte
  | .unit => s.lnk.unitAddress
  | .broadcast => 0x3F

/-- The characters of a request's frame, as commands (Table 8-5). -/
def characters (s : State) (r : Request) : List Instr :=
  .addressCharacter (addressOf s r.addr) :: (requestChars r.kind r.tag r.body).map .dataCharacter

/-- A frame for this part is being assembled (R154). -/
def assembling (s : State) : Bool :=
  match s.lnk.assembler with
  | .assembling _ _ => true
  | .idle | .ignoring => false

/-- The link after a well-formed frame for this part has been completed, before its request is placed:
a frame that it cut off is dropped (R157, R158), and supervision starts again (R169). -/
def heard (s : State) : State :=
  s.withLnk { s.lnk with
    assembler := .idle
    gap := none
    dropped := s.lnk.dropped || assembling s
    supervision :=
      if s.cfg.part = .operating then some (1000 * s.cfg.supervision) else s.lnk.supervision }

/-- The state u that a request has left, once its reply of some KIND and body has been built: the
request executes, the reply waits 2 to 25 ms, and the flags it reports are cleared (R161, R163, R166). -/
def withReply (r : Request) (kind : Byte) (body : List Byte) (u : State) : State :=
  { u with
    lnk := { u.lnk with
      executing := some r
      transmitter := .delay (2 + Config.freeReplyDelay u.drawn % 24)
      reply := some { kind := kind, tag := r.tag, linkStatus := linkStatus u, body := body }
      dropped := false
      linkLostSeen := if r.kind = 0x01 then false else u.lnk.linkLostSeen }
    cfg := { u.cfg with restarted := if r.kind = 0x01 then false else u.cfg.restarted }
    drawn := u.drawn + 1 }

/-- The body lengths of a KIND (Table 8-7); none for a KIND outside the table. -/
def bodyLengths (kind : Nat) : List Nat :=
  if kind ∈ [0x01, 0x02, 0x07, 0x08, 0x12, 0x20, 0x31] then [0]
  else if kind ∈ [0x18, 0x19, 0x1A, 0x1B, 0x1C, 0x1D, 0x28, 0x2A] then [1]
  else if kind ∈ [0x03, 0x05, 0x06, 0x10, 0x1F, 0x30] then [2]
  else if kind = 0x1E then [5]
  else if kind = 0x04 then [6]
  else if kind = 0x11 then [6, 7, 8, 9, 10]
  else if kind = 0x29 then [0, 2]
  else []

/-- An accepted reply (R164). -/
def accepts (r : Request) (body : List Byte) (u : State) : State := withReply r (r.kind + 0x80) body u

/-- A refusal (R164, R168). -/
def refuses (r : Request) (cause : Cause) (detail : Nat) (u : State) : State :=
  withReply r 0x7F [r.kind, byteOf (causeCode cause), byteOf detail] u

/-- The part can take the next request at once (R160). -/
def free (s : State) : Prop := s.lnk.executing = none

/-- A request can name channel c by a code, and its owner acts on it (R2, R167). -/
structure Named (s : State) (code : Byte) (c : Channel) : Prop where
  code : code.toNat = channelCode c
  part : s.cfg.part ≠ .locked
  present : s.cfg.part = .operating → s.cfg.absent.get c = false

/-- A request of an operating-only kind can name channel c (R2, R167). -/
structure NamedToRun (s : State) (code : Byte) (c : Channel) : Prop extends Named s code c where
  electric : isElectric c = true → s.cfg.part = .operating

/-! ## After a reset -/

/-- The part after a reset, with every value the last columns of Tables 1-1, 3-1, 4-1, 5-1, 5-3, 6-1,
6-2, 7-2, 8-1 and 9-1 give (R1, R6, R8, R27, R51, R76, R100, R101, R126, R144, R154, R173). -/
def afterReset (cause : ResetCause) (p : Pins) (drawn : Nat) (pending : List Instr) : State :=
  let burner (k : KnobPos) : BurnerRec :=
    { state := if k = .opened then .waitClose else .off, knob := k, debounce := none, attempts := 0,
      losses := 0, attemptTimer := none, proving := none, gap := none, flameLoss := .stopped,
      permit := true }
  { pins := p
    lnk :=
      { unitAddress := 0x30 + (if p.ads1 then 2 else 0) + (if p.ads0 then 1 else 0), assembler := .idle,
        gap := none, executing := none, waiting := none, transmitter := .idle, reply := none,
        dropped := false, linkLostSeen := false, supervision := none }
    cfg :=
      { part := .configuring, resetCause := cause, restarted := true, budget := none,
        heaters := PerHeater.const ⟨false, 0, 0, 0⟩, band := 16, overshoot := 20, supervision := 8,
        spacing := 500, absent := PerChannel.const false }
    pst := { free := 40, load := none }
    plr :=
      { chans := PerChannel.const
          { state := .empty, plan := [], stageIndex := 0, segIndex := 0, segCount := 0,
            remaining := .timed 0, secondTimer := none, pauseTimer := none, lastEnd := .none,
            haltCause := .none, planEnd := .none, level := 0 }
        cursor := none }
    pfs :=
      { sched := .stopped, frameNumber := 0, slot := 0, capacity := Vector.replicate 32 0,
        heaters := PerHeater.const
          { requested := 0, frame := 0, placed := Vector.replicate 32 false, granted := 0, starve := 0,
            promoted := false, late := false, hold := .none, relay := false }
        slotTimer := none }
    ovr :=
      { probeTimer := some 1000, buffer := [], errorCounter := 0, fault := false, context := .none,
        mode := .conventional, setpoint := 30, source := .mode, boostEndPending := false,
        active := ⟨false, false, false⟩, fanMark := false, handed := ⟨0, 0, 0⟩, doorState := p.door,
        doorDebounce := none, ovenFan := false, lamp := decide (p.door = .opened),
        coolingFan := false, fanJustOff := false }
    bsv :=
      { burners := ⟨burner p.knob.n1, burner p.knob.n2, burner p.knob.n3, burner p.knob.n4⟩
        queue := [], owner := none, rest := none, hold := .closed }
    out :=
      { heaters := PerHeater.const
          { drive := false, check := .idle, run := 0, failed := false, welded := false }
        contactor := .opened, supplyOff := false, check := false, proving := none, locked := false }
    ntq :=
      { queue := [], overflow := false, armed := true, spacing := none, attn := false, frozen := false }
    drawn := drawn
    pending := pending }

/-! ## The installation -/

/-- With n heaters installed, their ranks are distinct and are exactly 1 to n (R178). -/
def ranksComplete (s : State) : Prop :=
  (∀ h g : Heater, (s.install h).installed = true → (s.install g).installed = true →
    (s.install h).rank = (s.install g).rank → h = g) ∧
  ∀ h : Heater, (s.install h).installed = true →
    1 ≤ (s.install h).rank ∧ (s.install h).rank ≤ (installedHeaters s).length

/-- Every installed heater enters SETTLING with 200 ms to run and its run at 0 (R130). -/
def settled (s : State) : PerHeater HeaterOut :=
  s.out.heaters.map (fun h r =>
    if (s.install h).installed then { r with check := .settling 200, run := 0 } else r)

/-! ## Stages -/

/-- What Table 1-5 asks of a stage record for a channel. -/
def stageFits (p : StageSpec) (c : Channel) : Prop :=
  p.duration ≤ 86399 ∧
    match p.kind with
    | .level n => (hobHeater c).isSome = true ∧ 1 ≤ n ∧ n ≤ 12 ∧ p.endOnTarget = false ∧
        p.preheat = false
    | .ramp a b l => (hobHeater c).isSome = true ∧ a ≤ 12 ∧ b ≤ 12 ∧ 30 ≤ l ∧ l ≤ 3600 ∧
        l ≤ p.duration ∧ (p.duration + l - 1) / l ≤ 64 ∧ p.endOnTarget = false ∧ p.preheat = false
    | .wait => isElectric c = true ∧ p.endOnTarget = false ∧ p.preheat = false
    | .bake _ t => c = .ov ∧ 30 ≤ t ∧ t ≤ 275
    | .flame => (channelBurner c).isSome = true ∧ p.endOnTarget = false ∧ p.preheat = false

/-- The checks of Table 1-5 on the characters of a record for a channel, in order, each with its detail.
The characters stand as Table 8-11 gives them, and the kinds of a channel as Table 1-4 does. -/
def recordChecks (record : List Byte) (c : Channel) : List (Nat × Bool) :=
  let at' (i : Nat) : Nat := (record.getD i 0).toNat
  let kind := at' 0
  let duration := 65536 * at' 2 + 256 * at' 3 + at' 4
  let segment := 256 * at' 7 + at' 8
  let setpoint := 256 * at' 6 + at' 7
  let kinds : List Nat :=
    if (channelBurner c).isSome then [5] else if c = .ov then [3, 4] else [1, 2, 3]
  [(1, decide (1 ≤ kind ∧ kind ≤ 5)),
    (2, kinds.contains kind),
    (3, decide (kind = 4 ∨ at' 1 / 4 % 4 = 0)),
    (4, decide (duration ≤ 86399)),
    (5, decide (kind = 1 → 1 ≤ at' 5 ∧ at' 5 ≤ 12)),
    (6, decide (kind = 2 → at' 5 ≤ 12 ∧ at' 6 ≤ 12)),
    (7, decide (kind = 2 → 30 ≤ segment ∧ segment ≤ 3600)),
    (8, decide (kind = 2 → segment ≤ duration)),
    (9, decide (kind = 2 → (duration + segment - 1) / segment ≤ 64)),
    (10, decide (kind = 4 → at' 5 ≤ 5)),
    (11, decide (kind = 4 → 30 ≤ setpoint ∧ setpoint ≤ 275))]

/-- The detail of the first check that fails. -/
def firstFailed (checks : List (Nat × Bool)) : Option Nat :=
  (checks.find? (fun q => !q.2)).map (fun q => q.1)

/-- A stage would be discarded at its entry (R32). -/
def flushed (p : StageSpec) (last : EndCause) : Prop :=
  p.cleanOnly = true ∧ (last = .cut ∨ last = .flushed)

/-- The plan of r with record i marked. -/
def marked (r : ChannelRec) (i : Nat) (m : Mark) : List PoolRecord :=
  r.plan.modify i (fun p => { p with mark := m })

/-- The STAGE-END notice of stage i when its record asks for one (R4). -/
def stageEnd (c : Channel) (i : Nat) (p : StageSpec) (cause : EndCause) (s : State) : State :=
  if p.notify then raise (stageEndNotice c i cause) s else s

/-- The channel record r once stage i, with record p, has been entered (R31 steps 1 to 4). -/
def entered (r : ChannelRec) (i : Nat) (p : StageSpec) : ChannelRec :=
  { r with
    plan := r.plan.modify i (fun q => { q with mark := .current, targetReached := false })
    stageIndex := i
    segIndex := 0
    segCount := match p.kind with
      | .ramp _ _ l => (p.duration + l - 1) / l
      | .level _ | .wait | .bake _ _ | .flame => 0
    remaining := if p.duration = 0 then .untimed else .timed p.duration }

/-- The channel record r in DONE (R35, R36). -/
def done (r : ChannelRec) (cause : PlanEnd) : ChannelRec :=
  { r with
    state := .done, stageIndex := r.plan.length, segIndex := 0, segCount := 0,
    remaining := .timed 0, secondTimer := none, pauseTimer := none, planEnd := cause }

/-- The channel record r in HALTED (R23 steps 1 to 3). -/
def halted (r : ChannelRec) (cause : HaltCause) : ChannelRec :=
  { r with state := .halted, haltCause := cause, secondTimer := none, pauseTimer := none }

/-- Stage i of channel c, with record p, ends with a cause (R33 steps 1 to 3). -/
def ended (c : Channel) (i : Nat) (p : StageSpec) (cause : EndCause) (s : State) : State :=
  stageEnd c i p cause
    (s.setChan c { s.chan c with plan := marked (s.chan c) i (.ended cause), lastEnd := cause })

/-- The oven has reached its target in stage i (R87 steps 1 to 3). -/
def reached (i : Nat) (s : State) : State :=
  (raise { kind := .target, subject := 6, detail1 := i, detail2 := 0 }
    (s.setChan .ov { s.chan .ov with
      plan := (s.chan .ov).plan.modify i (fun p => { p with targetReached := true }) })).withOvr
    { s.ovr with boostEndPending := s.ovr.boostEndPending || decide (s.ovr.source = .boost) }

/-- The channel in EMPTY with its plan freed (R7, R19, R20); the level follows with sync. -/
def emptied (c : Channel) (s : State) : State :=
  (s.setChan c
    { state := .empty, plan := [], stageIndex := 0, segIndex := 0, segCount := 0,
      remaining := .timed 0, secondTimer := none, pauseTimer := none, lastEnd := .none,
      haltCause := .none, planEnd := .none, level := (s.chan c).level }).withPst
    { s.pst with free := s.pst.free + (s.chan c).plan.length }

/-- The channel level of Z1, Z2 or GR becomes n, and PFS is told of a change (R38, R55). -/
def handLevel (c : Channel) (h : Heater) (n : Nat) (s : State) : State :=
  if n = (s.chan c).level then s
  else demandChange h (slotsOfLevel n) (s.setChan c { s.chan c with level := n })

/-! ## Channel requests -/

/-- What an accepted channel request replies: the channel, its state and its stage index after the
request (section 1.5). -/
def standing (c : Channel) (s : State) : List Byte :=
  [byteOf (channelCode c), byteOf (stateCode (s.chan c).state), byteOf (s.chan c).stageIndex]

/-- The requests that move a channel, each with its KIND and the states it is accepted in (Table 1-3). -/
def movers (tag code : Byte) : List (Instr × Byte × List ChannelState) :=
  [(.start tag code, 0x18, [.ready]), (.pause tag code, 0x19, [.running]),
    (.resume tag code, 0x1A, [.paused]), (.skip tag code, 0x1B, [.running]),
    (.stop tag code, 0x1C, [.empty, .ready, .running, .paused]),
    (.clear tag code, 0x1D, [.done, .halted])]

/-- The refusals of one ADJUST command, in the order of R42: the channel, the range of the value with its
detail, the channel state, and the stage the adjustment needs. -/
def adjustRefusals (i : Instr) (r : Request) (code : Byte) (inRange : Prop) (detail : Nat)
    (suits : Remaining → StageKind → Prop) (s : State) : Prop :=
  (8 ≤ code.toNat → exec i s = .next (refuses r .outOfRange 1 (heard s))) ∧
  ∀ c : Channel, code.toNat = channelCode c →
    (s.cfg.part = .operating → s.cfg.absent.get c = true →
      exec i s = .next (refuses r .absent 0 (heard s))) ∧
    (Named s code c →
      (¬ inRange → exec i s = .next (refuses r .outOfRange detail (heard s))) ∧
      (inRange →
        ((s.chan c).state ≠ .running → (s.chan c).state ≠ .paused →
          exec i s = .next (refuses r .wrongState (stateCode (s.chan c).state) (heard s))) ∧
        ∀ p : PoolRecord, (s.chan c).state = .running ∨ (s.chan c).state = .paused →
          (s.chan c).plan[(s.chan c).stageIndex]? = some p →
          ¬ suits (s.chan c).remaining p.spec.kind →
            exec i s = .next
              (refuses r .wrongState (0x10 + stageKindCode p.spec.kind) (heard s))))

/-- The limits of an ADJUST TIME (R43, R44): the unrun part u of a stage of duration d becomes u + delta,
raised to 1 if lower and lowered to u + (86,399 − d) if higher; the value is the effective delta. -/
def limited (u d delta : Int) : Int := min (max (u + delta) 1) (u + (86399 - d)) - u

/-! ## The oven -/

/-- Table 4-3: the row of the boost set or of a mode names this heater. -/
def rowNames (source : ElementSource) (mode : Mode) (h : OvenHeater) : Bool :=
  match source, mode, h with
  | .boost, _, _ => true
  | .mode, .conventional, .top | .mode, .conventional, .base => true
  | .mode, .conventional, .ring => false
  | .mode, .fanRing, .ring => true
  | .mode, .fanRing, .top | .mode, .fanRing, .base => false
  | .mode, .fanConventional, .top | .mode, .fanConventional, .base => true
  | .mode, .fanConventional, .ring => false
  | .mode, .base, .base => true
  | .mode, .base, .top | .mode, .base, .ring => false
  | .mode, .top, .top => true
  | .mode, .top, .base | .mode, .top, .ring => false
  | .mode, .defrost, _ => false

/-- Table 4-3: the fan mark of the boost set or of a mode. -/
def rowFan (source : ElementSource) (mode : Mode) : Bool :=
  match source, mode with
  | .boost, _ => true
  | .mode, .fanRing | .mode, .fanConventional | .mode, .defrost => true
  | .mode, .conventional | .mode, .base | .mode, .top => false

/-- An oven heater that is installed and not FAILED (R83). -/
def works (s : State) (h : OvenHeater) : Bool :=
  (s.install (ovenHeaterAsHeater h)).installed && !(s.heaterOut (ovenHeaterAsHeater h)).failed

/-- The active set of R83 for a source and a mode. -/
def activeSet (s : State) (source : ElementSource) (mode : Mode) : PerOven Bool :=
  { top := rowNames source mode .top && works s .top
    base := rowNames source mode .base && works s .base
    ring := rowNames source mode .ring && works s .ring }

/-- The set is empty by failure (R84): the row names an installed heater, and every installed heater it
names is FAILED. -/
def failedSet (s : State) (source : ElementSource) (mode : Mode) : Prop :=
  (∃ h, rowNames source mode h = true ∧ (s.install (ovenHeaterAsHeater h)).installed = true) ∧
  ∀ h, rowNames source mode h = true → (s.install (ovenHeaterAsHeater h)).installed = true →
    (s.heaterOut (ovenHeaterAsHeater h)).failed = true

/-- OVR has taken a BAKE stage with this mode, setpoint and PREHEAT flag (R82 steps 1 to 4). -/
def bakeTaken (mode : Mode) (setpoint : Nat) (preheat : Bool) (s : State) : State :=
  let source : ElementSource := if preheat = true ∧ mode ≠ .defrost then .boost else .mode
  s.withOvr { s.ovr with
    context := .bake, mode := mode, setpoint := setpoint, source := source, boostEndPending := false
    active := activeSet s source mode, fanMark := rowFan source mode }

/-- OVR has no BAKE stage (R82): the active set is empty. -/
def noBake (context : OvenContext) (s : State) : State :=
  s.withOvr { s.ovr with
    context := context, active := ⟨false, false, false⟩, fanMark := false, boostEndPending := false }

/-! ## The power frame -/

/-- The walks of some heaters, one after another, from the capacities the walks before have left (R57,
R58): each heater with what its own walk leaves. -/
def walks (s : State) : List Heater → Slots Nat → List (Heater × Placement)
  | [], _ => []
  | h :: rest, capacity =>
    let w := placeWalk (s.install h).rating (s.heater h).frame (frameWalk (s.install h).offset)
      { capacity := capacity, placed := noSlots, granted := 0 }
    (h, w) :: walks s rest w.capacity

/-- A command that changes is handed to OUT, which sets the drive and starts the settling (R71, R127,
R130); otherwise OUT's record of the heater stays. -/
def handed (installed was now : Bool) (r : HeaterOut) : HeaterOut :=
  if was = now then r
  else if installed then { r with drive := now, check := .settling 200, run := 0 }
  else { r with drive := now }

/-- The scheduler's record of a heater once a change of its demand to 0 has been handed: untouched while
it is held, and while STOPPED (log 28); the demand written while STARTING; while RUNNING the frame demand,
the granted count and the placements gone, and the command off when the current slot was placed (R61, R62,
R68, R69). -/
def dropped (s : State) (h : Heater) : HeaterFrame :=
  let r := s.heater h
  if r.hold ≠ .none ∨ r.requested = 0 then r
  else match s.pfs.sched with
    | .stopped => r
    | .starting => { r with requested := 0 }
    | .running =>
      { r with
        requested := 0, frame := 0, placed := noSlots, granted := 0
        relay := r.relay && !r.placed.get s.pfs.slot }

/-- The cooling fan from s to u, when every command that has changed has gone off (R97): it stays while
none of the four it follows has changed; otherwise a fan that was on stays on while one of the four is on
or T_f is at least 50 degrees. The mark says that it has so gone off in this moment (log 35). -/
def coolingFollows (s u : State) : Prop :=
  ((∀ h : Heater, feedsCoolingFan h = true → (u.heater h).relay = (s.heater h).relay) →
    u.ovr.coolingFan = s.ovr.coolingFan ∧ u.ovr.fanJustOff = s.ovr.fanJustOff) ∧
  ((∃ h : Heater, feedsCoolingFan h = true ∧ (u.heater h).relay ≠ (s.heater h).relay) →
    s.ovr.coolingFan = true →
      u.ovr.coolingFan = (ovenOrGrillOn u || s.tempF.any (fun f => decide (50 ≤ f))) ∧
        u.ovr.fanJustOff = !u.ovr.coolingFan)

/-- What the dropping of the demands of some channels does from s to u: a hob zone or the grill that had a
level, and each installed oven heater that had a demand handed, is dropped; OUT is handed each command that
goes off; no other heater is touched (R16, R21, R24, R71, R86). -/
def demandsDropped (which : Channel → Prop) (s u : State) : Prop :=
  (∀ (c : Channel) (h : Heater), hobHeater c = some h →
    (which c → (s.chan c).level ≠ 0 → u.heater h = dropped s h) ∧
    (¬ which c ∨ (s.chan c).level = 0 → u.heater h = s.heater h)) ∧
  (∀ g : OvenHeater,
    let h := ovenHeaterAsHeater g
    (which .ov → (s.install h).installed = true → (s.install h).rank ≤ 6 →
      u.ovr.handed.get g = 0 ∧ (s.ovr.handed.get g ≠ 0 → u.heater h = dropped s h)) ∧
    (¬ which .ov ∨ (s.install h).installed = false ∨ s.ovr.handed.get g = 0 →
      u.ovr.handed.get g = s.ovr.handed.get g ∧ u.heater h = s.heater h)) ∧
  (∀ h : Heater, u.heaterOut h =
    handed (s.install h).installed (s.heater h).relay (u.heater h).relay (s.heaterOut h)) ∧
  coolingFollows s u

/-! ## Burners -/

/-- The generator, the queue and the hold window after burner n has left its state with its valve closed:
it has left the queue and has released the generator if it owned it (R105, R108). -/
def left (n : Burner) (b : Bsv) : Bsv :=
  { b with
    queue := b.queue.filter (fun m => decide (m ≠ n))
    owner := if b.owner = some n then none else b.owner
    rest := if b.owner = some n then some 500 else b.rest
    hold := if b.owner = some n then .tail 300 else b.hold }

/-- A burner's record in another state with its timers stopped (R105 step 4, R120, R121). -/
def atRest (b : BurnerRec) (next : BurnerState) : BurnerRec :=
  { b with
    state := next, attemptTimer := none, proving := none, gap := none, flameLoss := .stopped }

/-! ## The attention line -/

/-- The assertion check of R149 on the notice queue, with a spacing interval. -/
def checked (spacing : Nat) (q : Ntq) : Ntq :=
  if q.attn = false ∧ q.armed = true ∧ q.queue ≠ [] ∧ q.spacing = none then
    { q with attn := true, armed := false, spacing := if spacing = 0 then none else some spacing }
  else q

/-! ## The part's own clock -/

/-- The state a millisecond later, with nothing due: every running timer has counted one (R12, R29, R36,
R52, R77, R92, R103, R108, R110, R111, R113, R114, R116, R130, R131, R138, R151, R158, R163, R169), and a
new moment begins, so the mark of the cooling fan is clear (log 35). -/
def oneMillisecond (s : State) : State :=
  let up (t : Option Nat) : Option Nat := t.map (fun n => n + 1)
  let down (t : Option Nat) : Option Nat := t.map (fun n => n - 1)
  { s with
    lnk := { s.lnk with
      gap := up s.lnk.gap
      transmitter := match s.lnk.transmitter with
        | .idle => .idle
        | .delay n => .delay (n - 1)
        | .sending n => .sending (n - 1)
      supervision := down s.lnk.supervision }
    pst := { s.pst with load := s.pst.load.map (fun l => { l with idle := down l.idle }) }
    plr := { s.plr with chans := s.plr.chans.map (fun _ r =>
      { r with
        secondTimer := up r.secondTimer
        pauseTimer := r.pauseTimer.map (fun t => { t with phase := t.phase + 1 }) }) }
    pfs := { s.pfs with slotTimer := down s.pfs.slotTimer }
    ovr := { s.ovr with
      probeTimer := down s.ovr.probeTimer, doorDebounce := up s.ovr.doorDebounce
      fanJustOff := false }
    bsv := { s.bsv with
      burners := s.bsv.burners.map (fun n b =>
        { b with
          debounce := up b.debounce, attemptTimer := down b.attemptTimer, proving := up b.proving
          gap := down b.gap
          flameLoss := match b.flameLoss with
            | .running run =>
              .running (if b.state = .burning ∧ s.pins.flame.get n = false then run + 1 else run)
            | .stopped => .stopped
            | .frozen run => .frozen run })
      rest := down s.bsv.rest
      hold := match s.bsv.hold with
        | .tail n => .tail (n - 1)
        | .closed => .closed
        | .run => .run }
    out := { s.out with
      heaters := s.out.heaters.map (fun h r =>
        { r with
          check := match r.check with
            | .settling n => .settling (n - 1)
            | .idle => .idle
            | .watching => .watching
          run := if disagrees s h then r.run + 1 else r.run })
      proving := down s.out.proving }
    ntq := { s.ntq with spacing := down s.ntq.spacing } }

/-- A timer that counts up has run n milliseconds. -/
def hasRun (timer : Option Nat) (n : Nat) : Prop := ∃ k, timer = some k ∧ n ≤ k

/-- A heater has disagreed with its load sense for 2,000 ms (R131). -/
def runFull (s : State) (h : Heater) : Prop := disagrees s h = true ∧ 2000 ≤ (s.heaterOut h).run

/-- When an event of the part's own is due: the gap of 20 ms (R158), the delay and the sending of a reply
(R163), supervision (R170), the idle timer (R12), the seconds of a channel and of its pause (R29, R36), the
boundaries of the frame (R52), the probe (R77), 50 ms of another level at the door or a knob (R92, R103),
the timers of the burners (R108, R110, R111, R113, R115, R116) and of the output stage (R130, R131, R138),
and the spacing interval (R151). A stage and a pause end with their last second, and every other command
comes from outside. -/
def isDue (s : State) : Instr → Prop
  | .gapTimeout => hasRun s.lnk.gap 20
  | .replyStart => s.lnk.transmitter = .delay 0
  | .replySent => s.lnk.transmitter = .sending 0
  | .linkSupervisionExpiry => s.lnk.supervision = some 0
  | .loadIdleTimeout => ∃ l, s.pst.load = some l ∧ l.idle = some 0
  | .channelSecond c => (s.chan c).state = .running ∧ hasRun (s.chan c).secondTimer 1000
  | .pauseTimerSecond c => ∃ t, (s.chan c).pauseTimer = some t ∧ 1000 ≤ t.phase
  | .slotBoundary => s.pfs.slotTimer = some 0 ∧ s.pfs.sched = .running ∧ s.pfs.slot.val < 31
  | .frameBoundary => s.pfs.slotTimer = some 0 ∧
      (s.pfs.sched = .starting ∨ s.pfs.sched = .running ∧ s.pfs.slot.val = 31)
  | .probeReading t => s.ovr.probeTimer = some 0 ∧ t = s.pins.prb
  | .doorOpened => hasRun s.ovr.doorDebounce 50 ∧ s.pins.door = .opened
  | .doorClosed => hasRun s.ovr.doorDebounce 50 ∧ s.pins.door = .shut
  | .knobOpened n => hasRun (s.burner n).debounce 50 ∧ s.pins.knob.get n = .opened
  | .knobClosed n => hasRun (s.burner n).debounce 50 ∧ s.pins.knob.get n = .closed
  | .restTimerExpiry => s.bsv.rest = some 0
  | .flameProven n => (s.burner n).state = .igniting ∧ hasRun (s.burner n).proving 1000
  | .attemptFailed n => (s.burner n).state = .igniting ∧ (s.burner n).attemptTimer = some 0
  | .retryGapExpiry n => (s.burner n).state = .retryGap ∧ (s.burner n).gap = some 0
  | .flameLost n => (s.burner n).state = .burning ∧ s.pins.flame.get n = false ∧
      ∃ run, (s.burner n).flameLoss = .running run ∧ 1000 ≤ run
  | .holdTailEnd => s.bsv.hold = .tail 0
  | .settlingEnd h => (s.heaterOut h).check = .settling 0
  | .persistenceRunExpiry h also => runFull s h ∧ (∀ g, g ∈ also ↔ g ≠ h ∧ runFull s g) ∧
      also.Pairwise (fun g k => heaterCode g < heaterCode k)
  | .contactorProvingExpiry => s.out.proving = some 0
  | .spacingTimerExpiry => s.ntq.spacing = some 0
  | .stageElapsed _ | .pauseExpiry _ | .powerOnReset _ | .addressCharacter _ | .dataCharacter _
  | .framingError | .unknownKindRequest _ _ _ | .status _ | .readConfig _ | .setBudget _ _
  | .setHeater _ _ _ _ _ _ | .setOvenTuning _ _ _ | .setLink _ _ _ | .closeConfig _ | .restart _
  | .planBegin _ _ _ | .planStage _ _ _ | .planCommit _ | .start _ _ | .pause _ _ | .resume _ _
  | .skip _ _ | .stop _ _ | .clear _ _ | .adjustTime _ _ _ | .adjustLevel _ _ _
  | .adjustSetpoint _ _ _ | .quickLevel _ _ _ | .stopAll _ _ | .readChannel _ _ | .readStage _ _ _
  | .readStageNext _ | .readFrame _ _ | .fetchNotices _ _ _ | .armAttention _ | .doorInputChange _
  | .knobInputChange _ _ | .flameSenseChange _ _ | .loadSenseChange _ _ => False

end Sys2Proof.Claims
end

