-- ==== Sys2Proof/WellFormed.lean ====
section
/-! DEFINITION. Which commands are well formed. Every other field of a command holds only values its
type admits; a request whose operands are out of range is well formed, and the part refuses it. -/

namespace Sys2Proof

/-- The request kinds of Table 8-7. -/
def knownKindCodes : List Nat :=
  [0x01, 0x02, 0x03, 0x04, 0x05, 0x06, 0x07, 0x08, 0x10, 0x11, 0x12, 0x18, 0x19, 0x1A, 0x1B, 0x1C,
   0x1D, 0x1E, 0x1F, 0x20, 0x28, 0x29, 0x2A, 0x30, 0x31]

/-- An UNKNOWN_KIND_REQUEST carries a KIND outside Table 8-7 and a body that fits a frame; a PLAN_STAGE
carries a record that fits a frame (Table 8-5); the further heaters of a PERSISTENCE_RUN_EXPIRY are
distinct and other than the first (R137). -/
def Instr.wellFormed : Instr → Bool
  | .unknownKindRequest kind _ body => !knownKindCodes.contains kind.toNat && decide (body.length ≤ 24)
  | .planStage _ _ record => decide (record.length ≤ 23)
  | .persistenceRunExpiry h also => decide (also.Nodup) && !also.contains h
  | .powerOnReset _ | .addressCharacter _ | .dataCharacter _ | .framingError | .gapTimeout
  | .replyStart | .replySent | .linkSupervisionExpiry | .status _ | .readConfig _ | .setBudget _ _
  | .setHeater _ _ _ _ _ _ | .setOvenTuning _ _ _ | .setLink _ _ _ | .closeConfig _ | .restart _
  | .planBegin _ _ _ | .planCommit _ | .loadIdleTimeout | .start _ _ | .pause _ _ | .resume _ _
  | .skip _ _ | .stop _ _ | .clear _ _ | .adjustTime _ _ _ | .adjustLevel _ _ _
  | .adjustSetpoint _ _ _ | .quickLevel _ _ _ | .stopAll _ _ | .readChannel _ _ | .readStage _ _ _
  | .readStageNext _ | .readFrame _ _ | .fetchNotices _ _ _ | .armAttention _ | .channelSecond _
  | .stageElapsed _ | .pauseTimerSecond _ | .pauseExpiry _ | .slotBoundary | .frameBoundary
  | .probeReading _ | .doorInputChange _ | .doorOpened | .doorClosed | .knobInputChange _ _
  | .knobOpened _ | .knobClosed _ | .restTimerExpiry | .flameSenseChange _ _ | .flameProven _
  | .attemptFailed _ | .retryGapExpiry _ | .flameLost _ | .holdTailEnd | .loadSenseChange _ _
  | .settlingEnd _ | .contactorProvingExpiry | .spacingTimerExpiry => true

end Sys2Proof
end

