-- ==== Sys2Proof/Certificates/Slice0/Obligations.lean ====
section
/-! DEFINITION. The statements for the provers, family by family of the commands, then the invariants. -/

section Statements

open Sys2Proof Sys2Proof.Machine Sys2Proof.Claims Sys2Proof.Safety

/-! ## The step and the resets -/

/-- A step takes the command at the front of the queue and runs it on the rest of the queue. -/
def Obligations.StepRunsFrontCommand : Prop :=
  ∀ (c : Instr) (s : State) (rest : List Instr),
    step (s.withPending (c :: rest)) = exec c (s.withPending rest)

/-- Every command answers a next state, for every operand and in every state, and leaves the queue of
waiting commands alone (02 R49: each event is one whole; no rule stops the part). -/
def Obligations.CommandsCompleteAndLeaveTheQueue : Prop :=
  ∀ (c : Instr) (s : State), ∃ t : State, exec c s = .next t ∧ t.pending = s.pending

/-- The events that are due are those whose timer has run its time, and no others. On an empty queue one
of them comes to wait, or, while none is due, every running timer counts one millisecond. That the queue
runs the clock, and one event at a time, is the model's choice (log 4, log 5, log 7). -/
def Obligations.EmptyQueueRunsTheClock : Prop :=
  ∀ s : State, (∀ c : Instr, c ∈ dueEvents s ↔ isDue s c) ∧
    (s.pending = [] →
      (dueEvents s = [] → step s = .next (oneMillisecond s)) ∧
      (dueEvents s ≠ [] → ∃ c ∈ dueEvents s, ∃ k : Nat,
        step s = .next ((s.withPending [c]).withDrawn k)))

/-- R175: a power-on reset sets every block to the values of its chapter, with the knobs, the door and
the straps read at their levels. State.reset is the part after such a reset, with every input line at
the level that log 9 chooses; only those levels are the model's choice. -/
def Obligations.PowerOnResetSetsEveryBlock : Prop :=
  (∀ (p : ResetPins) (s : State),
    exec (.powerOnReset p) s =
      .next (afterReset .powerOn
        { s.pins with
          knob := ⟨p.kn1, p.kn2, p.kn3, p.kn4⟩, door := p.door, ads1 := p.ads1, ads0 := p.ads0 }
        s.drawn s.pending)) ∧
  State.reset = afterReset .powerOn
    { prb := 0, door := .shut, knob := ⟨.closed, .closed, .closed, .closed⟩,
      flame := ⟨false, false, false, false⟩, loadSense := ⟨false, false, false, false, false, false⟩,
      ads1 := false, ads0 := false } 0 []

/-! ## The link -/

/-- R156 to R159: a data character is appended, with the LEN check, and the (LEN + 2)th ends the frame,
whose characters must add up to 0; outside a frame it is passed over. An address character starts a
frame for this part or deselects it. A frame being assembled is discarded by the gap timer, by a framing
error and by an address character, which is then taken. Without a running gap timer GAP_TIMEOUT does
nothing (log 3). -/
def Obligations.CharactersAreAssembled : Prop :=
  (∀ (d : Byte) (s : State),
    (assembling s = false → exec (.dataCharacter d) s = .next s) ∧
    ∀ (a : FrameAddr) (got : List Byte), s.lnk.assembler = .assembling a got →
      let chars := got ++ [d]
      let len := (chars.headD 0).toNat
      exec (.dataCharacter d) s =
        if len < 2 ∨ 26 < len then
          .next (s.withLnk { s.lnk with assembler := .ignoring, gap := none, dropped := true })
        else if chars.length ≠ len + 2 then
          .next (s.withLnk { s.lnk with assembler := .assembling a chars, gap := some 0 })
        else if (chars.map (fun b => b.toNat)).sum % 256 = 0 then
          .next (acceptFrame ⟨a, chars.getD 1 0, chars.getD 2 0, (chars.drop 3).dropLast⟩
            (s.withLnk { s.lnk with assembler := .idle, gap := none }))
        else .next (s.withLnk { s.lnk with assembler := .idle, gap := none, dropped := true })) ∧
  ∀ s : State,
    (∀ a : Byte,
      let dropped := s.lnk.dropped || assembling s
      exec (.addressCharacter a) s = .next (s.withLnk
        (if a = s.lnk.unitAddress then
          { s.lnk with assembler := .assembling .unit [], gap := some 0, dropped := dropped }
        else if a = 0x3F then
          { s.lnk with assembler := .assembling .broadcast [], gap := some 0, dropped := dropped }
        else { s.lnk with assembler := .ignoring, gap := none, dropped := dropped }))) ∧
    let discarded := s.withLnk { s.lnk with assembler := .idle, gap := none, dropped := true }
    (assembling s = true →
      exec .framingError s = .next discarded ∧
      (∀ n, s.lnk.gap = some n → exec .gapTimeout s = .next discarded) ∧
      ∀ a : Byte, exec (.addressCharacter a) s = exec (.addressCharacter a) discarded) ∧
    (assembling s = false → exec .framingError s = .next s) ∧
    (s.lnk.gap = none → exec .gapTimeout s = .next s)

/-- R160, R162, R163, R169: a request, also a broadcast STOP ALL, is taken when the executing slot is
empty, and waits, or is dropped when both slots are occupied; the reply to a unit request waits 2 to 25 ms.
A broadcast frame that closes well-formed is a STOP ALL when its KIND is 0x20 and its body empty; any other
is passed over, without DROPPED, and starts supervision again. That a STATUS restarts supervision too, at
the moment of an expiry, where R180 has the expiry follow it, is the model's choice (log 34). -/
def Obligations.RequestsArePlaced : Prop :=
  (∀ (c : Instr) (r : Request) (s : State), requestFrame c = some r → r.body.length ≤ 24 →
    (s.lnk.executing = none → exec c s = .next (takeRequest r (heard s)) ∧
      (r.addr = .unit → ∃ t : State, exec c s = .next t ∧ t.lnk.executing = some r ∧
        t.lnk.waiting = s.lnk.waiting ∧ ∃ d, t.lnk.transmitter = .delay d ∧ 2 ≤ d ∧ d ≤ 25)) ∧
    (∀ e, s.lnk.executing = some e → s.lnk.waiting = none →
      exec c s = .next ((heard s).withLnk { (heard s).lnk with waiting := some r })) ∧
    (∀ e w, s.lnk.executing = some e → s.lnk.waiting = some w →
      exec c s = .next ((heard s).withLnk { (heard s).lnk with dropped := true }))) ∧
  ∀ (got : List Byte) (d : Byte) (s : State), s.lnk.assembler = .assembling .broadcast got →
    let chars := got ++ [d]
    let len := (chars.headD 0).toNat
    let closed := s.withLnk { s.lnk with assembler := .idle, gap := none }
    2 ≤ len → len ≤ 26 → chars.length = len + 2 →
    (chars.map (fun b => b.toNat)).sum % 256 = 0 →
      (chars.getD 1 0 = 0x20 → len = 2 →
        exec (.dataCharacter d) s = exec (.stopAll true (chars.getD 2 0)) closed) ∧
      (chars.getD 1 0 ≠ 0x20 ∨ len ≠ 2 →
        exec (.dataCharacter d) s = .next (closed.withLnk { closed.lnk with
          supervision :=
            if s.cfg.part = .operating then some (1000 * s.cfg.supervision)
            else s.lnk.supervision }))

/-- R160, R163, R164, R182: the reply starts when its delay has run out, and takes 11 bit times a
character at 19,200 bit/s, rounded up to whole milliseconds (log 7). At its end the transmitter and the
executing slot become idle and empty, and the waiting request, if any, is taken. After the reply to an
accepted RESTART every block takes its reset values with cause REQUESTED, and a waiting request is lost,
unless the part has become LOCKED meanwhile (log 18). The waiting request does what it does on arrival at
the freed link. A reply goes out as the address character 0x20 and its data characters; LEN is 3 more than
the body length and the characters from LEN to SUM add up to 0. -/
def Obligations.RepliesAreSpelledAndSent : Prop :=
  (((∀ (s : State) (n : Nat) (r : Reply), s.lnk.transmitter = .delay n → s.lnk.reply = some r →
    exec .replyStart s = .next (s.withLnk { s.lnk with
      transmitter := .sending (((r.body.length + 6) * 11000 + 19199) / 19200) })) ∧
  ∀ (s : State) (n : Nat), s.lnk.transmitter = .sending n →
    (∀ r, s.lnk.reply = some r → r.kind = 0x88 → s.cfg.part = .locked) →
      let freed := s.withLnk { s.lnk with
        executing := none, waiting := none, transmitter := .idle, reply := none }
      (s.lnk.waiting = none → exec .replySent s = .next freed) ∧
      (∀ r, s.lnk.waiting = some r → exec .replySent s = .next (takeRequest r freed) ∧
        (∀ c, requestFrame c = some r → r.body.length ≤ 24 → heard freed = freed →
          exec .replySent s = exec c freed) ∧
        ∃ t : State, exec .replySent s = .next t ∧ t.lnk.waiting = none ∧
          (r.addr = .unit → t.lnk.executing = some r ∧
            ∃ d, t.lnk.transmitter = .delay d ∧ 2 ≤ d ∧ d ≤ 25) ∧
          (r.addr = .broadcast → t.lnk.executing = none ∧ t.lnk.transmitter = .idle))) ∧
  ∀ (s : State) (n : Nat) (r : Reply), s.lnk.transmitter = .sending n → s.lnk.reply = some r →
    r.kind = 0x88 → s.cfg.part ≠ .locked →
      exec .replySent s = .next (afterReset .requested s.pins s.drawn s.pending)) ∧
  ∀ r : Reply, r.body.length ≤ 38 →
    (∀ (s : State) (n : Nat), s.lnk.transmitter = .sending n → s.lnk.reply = some r →
      transmitted s = .address 0x20 :: (replyChars r).map (fun b => LinkChar.data b)) ∧
    (((replyChars r).map (fun b => b.toNat)).sum % 256 = 0) ∧
    (replyChars r).length = r.body.length + 5 ∧
    ((replyChars r).headD 0).toNat = r.body.length + 3 ∧
    (replyChars r).drop 1 = [r.kind, r.tag, r.linkStatus] ++ r.body ++ [(replyChars r).getLastD 0]

/-- R170, R24: a lost link stops its timer, pauses each RUNNING electric channel as PAUSE does, raises
LINK-LOST and sets LINK-LOST-SEEN; the gas side goes on. The heaters of the paused channels are dropped,
those of OV with their handed demand, and its fan goes off. Without a running supervision timer nothing
happens (log 3). That the command acts whatever time the timer shows is the model's choice (log 2), also
when it follows a STATUS that has just restarted the timer (log 34). -/
def Obligations.LinkLossPausesElectricChannels : Prop :=
  ∀ s : State, (s.lnk.supervision = none → exec .linkSupervisionExpiry s = .next s) ∧
    ∀ n : Nat, s.lnk.supervision = some n → ∃ t u : State,
      let runs (c : Channel) : Prop := isElectric c = true ∧ (s.chan c).state = .running
      exec .linkSupervisionExpiry s = .next t ∧
      t = (raise { kind := .linkLost, subject := 0xFF, detail1 := 0, detail2 := 0 } u).withLnk
        { s.lnk with supervision := none, linkLostSeen := true } ∧
      (∀ c : Channel, runs c →
        u.chan c = { s.chan c with
          state := .paused, secondTimer := none, pauseTimer := some { left := 600, phase := 0 }
          level := if c = .ov then (s.chan c).level else 0 }) ∧
      (∀ c : Channel, ¬ runs c → u.chan c = s.chan c) ∧
      demandsDropped runs s u ∧
      (runs .ov → u.ovr = { s.ovr with
        handed := u.ovr.handed, coolingFan := u.ovr.coolingFan, fanJustOff := u.ovr.fanJustOff
        ovenFan := false
        lamp := decide (s.ovr.doorState = .opened) }) ∧
      (¬ runs .ov → u.ovr = { s.ovr with
        handed := u.ovr.handed, coolingFan := u.ovr.coolingFan
        fanJustOff := u.ovr.fanJustOff }) ∧
      u = { s with
        plr := { s.plr with chans := u.plr.chans }
        pfs := { s.pfs with heaters := u.pfs.heaters }
        ovr := u.ovr
        out := { s.out with heaters := u.out.heaters } }

/-- Table 8-8: a request command does what the characters of its frame do, one after another. Table 8-5
gives the characters. -/
def Obligations.CharactersSpellTheRequest : Prop :=
  ∀ (c : Instr) (r : Request) (s : State) (rest : List Instr), requestFrame c = some r →
    r.body.length ≤ 24 → (r.addr = .broadcast → s.lnk.unitAddress ≠ 0x3F) →
      Host.Core.run Sys2Proof.core (characters s r).length
          (s.withPending (characters s r ++ rest)) =
        Host.Core.run Sys2Proof.core 1 (s.withPending (c :: rest))

/-- R167: the generic checks, in order, each with its cause and detail, for every KIND and every body a
frame can carry: a KIND outside Table 8-7, a body length that the table does not give for its KIND, the part
LOCKED, a configuration kind while OPERATING, and an operating-only kind while CONFIGURING. -/
def Obligations.GenericChecksRefuse : Prop :=
  ∀ (c : Instr) (r : Request) (s : State), requestFrame c = some r → r.addr = .unit → free s →
    r.body.length ≤ 24 →
      let kind := r.kind.toNat
      let lengths := bodyLengths kind
      (lengths = [] → exec c s = .next (refuses r .unknownKind 0 (heard s))) ∧
      (lengths ≠ [] → r.body.length ∉ lengths →
        exec c s = .next (refuses r .badLength r.body.length (heard s))) ∧
      (r.body.length ∈ lengths →
        (s.cfg.part = .locked → kind ≠ 1 → exec c s = .next (refuses r .locked 0 (heard s))) ∧
        (s.cfg.part = .operating → 3 ≤ kind → kind ≤ 7 →
          exec c s = .next (refuses r .wrongState 1 (heard s))) ∧
        (s.cfg.part = .configuring → kind = 0x10 ∨ kind = 0x18 ∨ kind = 0x1F →
          4 ≤ (r.body.headD 0).toNat → (r.body.headD 0).toNat ≤ 7 →
            exec c s = .next (refuses r .notConfigured 0 (heard s))))

/-! ## Configuration and the part -/

/-- R180, R181: STATUS is accepted in every part state, replies what the blocks hold, and its reply
clears RESTARTED and LINK-LOST-SEEN. READ CONFIG replies the installation as accepted so far and changes
no state of it. R166, Tables 8-2 and 8-6: the link status that these and all other replies carry shows
each of the seven flags at its bit. That a STATUS at the moment of an expiry restarts supervision, where
R180 has the expiry follow it, is the model's choice (log 34). -/
def Obligations.StatusAndConfigAreReported : Prop :=
  (∀ s : State,
    let b := linkStatus s
    b.getLsbD 0 = s.cfg.restarted ∧ b.getLsbD 1 = s.lnk.dropped ∧
    b.getLsbD 2 = !s.ntq.queue.isEmpty ∧ b.getLsbD 3 = s.lnk.linkLostSeen ∧
    b.getLsbD 4 = decide (s.cfg.part = .configuring) ∧ b.getLsbD 5 = decide (s.cfg.part = .locked) ∧
    b.getLsbD 6 = s.out.supplyOff ∧ b.getLsbD 7 = false) ∧
  (∀ (tag : Byte) (s : State), free s →
    exec (.status tag) s = .next (accepts ⟨.unit, 0x01, tag, []⟩
      ([byteOf (partCode s.cfg.part), byteOf (resetCauseCode s.cfg.resetCause),
          if s.out.supplyOff then 1 else 0] ++
        [Channel.b1, .b2, .b3, .b4, .z1, .z2, .ov, .gr].map
          (fun c => byteOf (stateCode (s.chan c).state)) ++
        [byteOf (maskOf ([Heater.hz1, .hz2, .htop, .hbase, .hring, .hgrill].map
            (fun h => (s.heaterOut h).failed))),
          byteOf (maskOf ([Heater.hz1, .hz2, .htop, .hbase, .hring, .hgrill].map
            (fun h => (s.heaterOut h).welded)))])
      (heard s))) ∧
  ∀ (tag : Byte) (s : State), free s → s.cfg.part ≠ .locked →
    exec (.readConfig tag) s = .next (accepts ⟨.unit, 0x02, tag, []⟩
      ([byteOf (partCode s.cfg.part)] ++ be16 (s.cfg.budget.getD 0) ++
        [byteOf s.cfg.band, byteOf s.cfg.overshoot, byteOf s.cfg.supervision,
          byteOf (s.cfg.spacing / 100), byteOf s.pst.free] ++
        [Heater.hz1, .hz2, .htop, .hbase, .hring, .hgrill].flatMap (fun h =>
          [if (s.install h).installed then 1 else 0] ++ be16 (s.install h).rating ++
            [byteOf (s.install h).rank, byteOf (s.install h).offset]))
      (heard s))

/-- R176, R177: SET BUDGET, SET OVEN TUNING, SET LINK and SET HEATER while CONFIGURING: their range checks
in body order, and on acceptance the operands written and the values they replace replied. A SET HEATER
with installed 0 leaves its other operands unchecked and clears the record. -/
def Obligations.SettingsAreCheckedAndWritten : Prop :=
  (∀ (tag : Byte) (s : State), free s → s.cfg.part = .configuring →
    (∀ w : BitVec 16,
      let r : Request := ⟨.unit, 0x03, tag, be16 w.toNat⟩
      exec (.setBudget tag w) s = .next
        (if 1000 ≤ w.toNat ∧ w.toNat ≤ 15000 ∧ w.toNat % 10 = 0 then
          accepts r (be16 (s.cfg.budget.getD 0))
            ((heard s).withCfg { s.cfg with budget := some w.toNat })
        else refuses r .outOfRange 1 (heard s))) ∧
    (∀ band limit : Byte,
      let r : Request := ⟨.unit, 0x05, tag, [band, limit]⟩
      exec (.setOvenTuning tag band limit) s = .next
        (if ¬ (4 ≤ band.toNat ∧ band.toNat ≤ 32) then refuses r .outOfRange 1 (heard s)
        else if ¬ (10 ≤ limit.toNat ∧ limit.toNat ≤ 40) then refuses r .outOfRange 2 (heard s)
        else accepts r [byteOf s.cfg.band, byteOf s.cfg.overshoot]
          ((heard s).withCfg { s.cfg with band := band.toNat, overshoot := limit.toNat }))) ∧
    (∀ sup steps : Byte,
      let r : Request := ⟨.unit, 0x06, tag, [sup, steps]⟩
      exec (.setLink tag sup steps) s = .next
        (if ¬ (4 ≤ sup.toNat ∧ sup.toNat ≤ 30) then refuses r .outOfRange 1 (heard s)
        else if 20 < steps.toNat then refuses r .outOfRange 2 (heard s)
        else accepts r [byteOf s.cfg.supervision, byteOf (s.cfg.spacing / 100)]
          ((heard s).withCfg { s.cfg with
            supervision := sup.toNat, spacing := 100 * steps.toNat })))) ∧
  ∀ (tag code inst rank offset : Byte) (w : BitVec 16) (s : State), free s →
    s.cfg.part = .configuring →
      let r : Request := ⟨.unit, 0x04, tag, [code, inst] ++ be16 w.toNat ++ [rank, offset]⟩
      (6 ≤ code.toNat → exec (.setHeater tag code inst w rank offset) s =
        .next (refuses r .outOfRange 1 (heard s))) ∧
      ∀ h : Heater, code.toNat = heaterCode h →
        let old := s.install h
        let before := [byteOf (heaterCode h), if old.installed then 1 else 0] ++ be16 old.rating ++
          [byteOf old.rank, byteOf old.offset]
        let write (x : HeaterCfg) : State :=
          (heard s).withCfg { s.cfg with heaters := s.cfg.heaters.set h x }
        exec (.setHeater tag code inst w rank offset) s = .next
          (if inst.toNat = 0 then accepts r before (write ⟨false, 0, 0, 0⟩)
          else if inst.toNat ≠ 1 then refuses r .outOfRange 2 (heard s)
          else if ¬ (100 ≤ w.toNat ∧ w.toNat ≤ 4000 ∧ w.toNat % 10 = 0) then
            refuses r .outOfRange 3 (heard s)
          else if ¬ (1 ≤ rank.toNat ∧ rank.toNat ≤ 6) then refuses r .outOfRange 4 (heard s)
          else if ¬ offset.toNat ≤ 31 then refuses r .outOfRange 5 (heard s)
          else accepts r before (write ⟨true, w.toNat, rank.toNat, offset.toNat⟩))

/-- R178, R179: CLOSE CONFIG is refused on the first of its four checks that fails, and changes nothing.
Accepted, it fixes the ABSENT set, makes the part OPERATING, closes the contactor and starts the
settling, makes the scheduler STARTING with the first frame boundary 500 ms away, and starts link
supervision; it replies the two masks. -/
def Obligations.CloseConfigChecksAndOpens : Prop :=
  (∀ (tag : Byte) (s : State), free s → s.cfg.part = .configuring →
    let r : Request := ⟨.unit, 0x07, tag, []⟩
    (s.cfg.budget = none → exec (.closeConfig tag) s = .next (refuses r .outOfRange 1 (heard s))) ∧
    ∀ budget, s.cfg.budget = some budget →
      ((∀ h, (s.install h).installed = false) →
        exec (.closeConfig tag) s = .next (refuses r .outOfRange 2 (heard s))) ∧
      ((∃ h, (s.install h).installed = true) → ¬ ranksComplete s →
        exec (.closeConfig tag) s = .next (refuses r .outOfRange 3 (heard s))) ∧
      ((∃ h, (s.install h).installed = true) → ranksComplete s →
        (∃ h, (s.install h).installed = true ∧ budget < (s.install h).rating) →
        exec (.closeConfig tag) s = .next (refuses r .outOfRange 4 (heard s)))) ∧
  ∀ (tag : Byte) (s : State) (budget : Nat), free s → s.cfg.part = .configuring →
    s.cfg.budget = some budget → (∃ h, (s.install h).installed = true) → ranksComplete s →
    (∀ h, (s.install h).installed = true → (s.install h).rating ≤ budget) →
      let i (h : Heater) : Bool := (s.install h).installed
      let ov := i .htop || i .hbase || i .hring
      let u := heard s
      exec (.closeConfig tag) s = .next (accepts ⟨.unit, 0x07, tag, []⟩
        [byteOf (maskOf [i .hz1, i .hz2, i .htop, i .hbase, i .hring, i .hgrill]),
          byteOf (maskOf [false, false, false, false, !i .hz1, !i .hz2, !ov, !i .hgrill])]
        { u with
          cfg := { s.cfg with
            part := .operating
            absent := ⟨false, false, false, false, !i .hz1, !i .hz2, !ov, !i .hgrill⟩ }
          out := { s.out with contactor := .closed, heaters := settled s }
          pfs := { s.pfs with sched := .starting, slotTimer := some 500 }
          lnk := { u.lnk with supervision := some (1000 * s.cfg.supervision) } })

/-- R182, R138: RESTART is refused BUSY while a channel is RUNNING or PAUSED, a burner is not OFF or the
contactor check is proving, in this order; otherwise it is accepted and the reset waits for the reply. -/
def Obligations.RestartIsCheckedInOrder : Prop :=
  ∀ (tag : Byte) (s : State), free s → s.cfg.part ≠ .locked →
    let r : Request := ⟨.unit, 0x08, tag, []⟩
    let active := ∃ c, (s.chan c).state = .running ∨ (s.chan c).state = .paused
    let lit := ∃ n, (s.burner n).state ≠ .off
    let proving := s.out.proving ≠ none ∨
      s.out.check = true ∧ ∃ h, (s.install h).installed = true ∧ 0 < (s.heaterOut h).run
    (active → exec (.restart tag) s = .next (refuses r .busy 1 (heard s))) ∧
    (¬ active → lit → exec (.restart tag) s = .next (refuses r .busy 2 (heard s))) ∧
    (¬ active → ¬ lit → proving → exec (.restart tag) s = .next (refuses r .busy 3 (heard s))) ∧
    (¬ active → ¬ lit → ¬ proving → exec (.restart tag) s = .next (accepts r [] (heard s)))

/-! ## Loading a plan -/

/-- R9, R12: PLAN BEGIN: its checks in order, and on acceptance a fresh context with 10 s to run in place
of any other, replying the records available to the new plan. The expiry of the idle timer closes the
context and does nothing else; without a running idle timer nothing happens (log 3). -/
def Obligations.LoadContextOpensAndTimesOut : Prop :=
  (∀ (tag code count : Byte) (s : State), free s →
    let r : Request := ⟨.unit, 0x10, tag, [code, count]⟩
    (8 ≤ code.toNat → s.cfg.part ≠ .locked →
      exec (.planBegin tag code count) s = .next (refuses r .outOfRange 0 (heard s))) ∧
    (∀ c, code.toNat = channelCode c → s.cfg.part = .operating → s.cfg.absent.get c = true →
      exec (.planBegin tag code count) s = .next (refuses r .absent 0 (heard s))) ∧
    ∀ c, NamedToRun s code c → exec (.planBegin tag code count) s = .next
      (if 1 ≤ count.toNat ∧ count.toNat ≤ 12 then
        accepts r [byteOf (channelCode c), count, byteOf (s.pst.free + (s.chan c).plan.length)]
          ((heard s).withPst { s.pst with
            load := some
              { target := c, expected := count.toNat, staged := [], idle := some 10000 } })
      else refuses r .outOfRange 0 (heard s))) ∧
  ∀ s : State,
    (∀ l n, s.pst.load = some l → l.idle = some n →
      exec .loadIdleTimeout s = .next (s.withPst { s.pst with load := none })) ∧
    ((∀ l ∈ s.pst.load, l.idle = none) → exec .loadIdleTimeout s = .next s)

/-- R10, R11, R172: PLAN STAGE with a record that Table 1-5 passes for the target stages that record, and
starts the idle timer again: the record whose characters they are, or, whatever the bits 4 to 7 of its
flags, the record whose characters they are with these bits clear. It is refused NO-LOAD while the context is closed,
SEQUENCE with the next expected index when its index differs or every expected stage is staged, then
BAD-LENGTH when the record's length does not suit its kind, then OUT-OF-RANGE with the detail of the first
check of Table 1-5 that fails; the context stays as it was. -/
def Obligations.PlanStageStagesTheRecord : Prop :=
  (∀ (tag index : Byte) (p : StageSpec) (load : LoadContext) (s : State), free s →
    s.cfg.part ≠ .locked → s.pst.load = some load → index.toNat = load.staged.length →
    load.staged.length < load.expected → stageFits p load.target →
      exec (.planStage tag index (recordChars p)) s =
        .next (accepts ⟨.unit, 0x11, tag, index :: recordChars p⟩
          [index, byteOf (load.expected - (load.staged.length + 1))]
          ((heard s).withPst { s.pst with
            load := some { load with staged := load.staged ++ [p], idle := some 10000 } }))) ∧
  ∀ (tag index : Byte) (record : List Byte) (s : State), free s → s.cfg.part ≠ .locked →
    5 ≤ record.length → record.length ≤ 9 →
      let r : Request := ⟨.unit, 0x11, tag, index :: record⟩
      (s.pst.load = none → exec (.planStage tag index record) s =
        .next (refuses r .noLoad 0 (heard s))) ∧
      ∀ load, s.pst.load = some load →
        (index.toNat ≠ load.staged.length ∨ load.expected ≤ load.staged.length →
          exec (.planStage tag index record) s =
            .next (refuses r .sequence load.staged.length (heard s))) ∧
        (index.toNat = load.staged.length → load.staged.length < load.expected →
          let length := recordLength (record.headD 0).toNat
          (∀ n, length = some n → n ≠ record.length → exec (.planStage tag index record) s =
            .next (refuses r .badLength (record.length + 1) (heard s))) ∧
          (length = some record.length → firstFailed (recordChecks record load.target) = none →
            let p := recordOf record
            stageFits p load.target ∧
              recordChars p = record.set 1 (record.getD 1 0 &&& 0x0F) ∧
              exec (.planStage tag index record) s =
                .next (accepts r [index, byteOf (load.expected - (load.staged.length + 1))]
                  ((heard s).withPst { s.pst with
                    load := some
                      { load with staged := load.staged ++ [p], idle := some 10000 } }))) ∧
          ∀ detail, length = none ∨ length = some record.length →
            firstFailed (recordChecks record load.target) = some detail →
              exec (.planStage tag index record) s =
                .next (refuses r .outOfRange detail (heard s)))

/-- R11: whatever record PLAN STAGE stages passes every check of Table 1-5 for the target channel. -/
def Obligations.StagedRecordsFitTheirChannel : Prop :=
  ∀ (tag index : Byte) (record : List Byte) (s t : State) (load : LoadContext) (p : StageSpec),
    free s → s.pst.load = some load → exec (.planStage tag index record) s = .next t →
      (∃ l ∈ t.pst.load, l.staged = load.staged ++ [p]) → stageFits p load.target

/-- R13: a PLAN COMMIT refused from check 2 on closes the load context; the checks stand in order. That a
target which a weld has just halted is refused WRONG-STATE too, where R142 has the commit accepted, is the
model's choice (log 33). -/
def Obligations.RefusedCommitClosesTheContext : Prop :=
  ∀ (tag : Byte) (s : State), free s → s.cfg.part ≠ .locked →
    let r : Request := ⟨.unit, 0x12, tag, []⟩
    let closed := (heard s).withPst { s.pst with load := none }
    (s.pst.load = none → exec (.planCommit tag) s = .next (refuses r .noLoad 0 (heard s))) ∧
    ∀ load, s.pst.load = some load →
      let rec' := s.chan load.target
      let have' := s.pst.free + rec'.plan.length
      let bake := ∃ p ∈ load.staged, ∃ m t, p.kind = .bake m t
      let blocked := load.target = .ov ∧ s.ovr.fault = true ∧ bake
      let untimed := ∃ i : Nat, i + 1 < load.staged.length ∧
        (load.staged[i]?).map (fun p => p.duration) = some 0
      (load.staged.length < load.expected → exec (.planCommit tag) s =
        .next (refuses r .sequence load.staged.length closed)) ∧
      (load.expected ≤ load.staged.length →
        (rec'.state = .running ∨ rec'.state = .paused → exec (.planCommit tag) s =
          .next (refuses r .busy (stateCode rec'.state) closed)) ∧
        (rec'.state = .halted → exec (.planCommit tag) s =
          .next (refuses r .wrongState 5 closed)) ∧
        (rec'.state = .empty ∨ rec'.state = .ready ∨ rec'.state = .done →
          (blocked → exec (.planCommit tag) s = .next (refuses r .blocked 3 closed)) ∧
          (¬ blocked → untimed → exec (.planCommit tag) s =
            .next (refuses r .outOfRange 12 closed)) ∧
          (¬ blocked → ¬ untimed → have' < load.expected → exec (.planCommit tag) s =
            .next (refuses r .noSpace have' closed))))

/-- R14, R7: an accepted PLAN COMMIT frees the records of the present plan, takes those of the new one,
makes the channel READY at stage 0 and closes the context. Sync hands on what this changes. -/
def Obligations.CommitMakesTheChannelReady : Prop :=
  ∀ (tag : Byte) (load : LoadContext) (s : State), free s → s.cfg.part ≠ .locked →
    s.pst.load = some load → load.staged.length = load.expected →
    let c := load.target
    let old := s.chan c
    (old.state = .empty ∨ old.state = .ready ∨ old.state = .done) →
    (s.ovr.fault = true → c = .ov → ∀ p ∈ load.staged, ∀ m t, p.kind ≠ .bake m t) →
    (∀ i : Nat, i + 1 < load.staged.length →
      (load.staged[i]?).map (fun p => p.duration) ≠ some 0) →
    load.expected ≤ s.pst.free + old.plan.length →
      let first := (load.staged.head?.map (fun p => p.duration)).getD 0
      let free' := s.pst.free + old.plan.length - load.expected
      exec (.planCommit tag) s = .next (accepts ⟨.unit, 0x12, tag, []⟩
        [byteOf (channelCode c), byteOf load.expected, byteOf free']
        (sync c (((heard s).withPst { free := free', load := none }).setChan c
          { state := .ready
            plan := load.staged.map (fun p => { spec := p, mark := .pending, targetReached := false })
            stageIndex := 0, segIndex := 0, segCount := 0
            remaining := if first = 0 then .untimed else .timed first
            secondTimer := none, pauseTimer := none, lastEnd := .none, haltCause := .none
            planEnd := .none, level := old.level })))

/-! ## Channel requests -/

/-- R2, R15 to R20: the requests that move a channel refuse a channel code of 8 or more, then an ABSENT
channel, then every channel state but those of Table 1-3, and change nothing. QUICK LEVEL refuses the first
two likewise, whatever its level. That START of a channel which a weld has just halted is WRONG-STATE too,
where R142 says BLOCKED, is the model's choice (log 33). -/
def Obligations.ChannelRequestsNeedTheirState : Prop :=
  ∀ (tag code : Byte) (s : State), free s → s.cfg.part ≠ .locked →
    (∀ level : Byte,
      let r : Request := ⟨.unit, 0x1F, tag, [code, level]⟩
      (8 ≤ code.toNat →
        exec (.quickLevel tag code level) s = .next (refuses r .outOfRange 0 (heard s))) ∧
      ∀ c : Channel, code.toNat = channelCode c → s.cfg.part = .operating →
        s.cfg.absent.get c = true →
          exec (.quickLevel tag code level) s = .next (refuses r .absent 0 (heard s))) ∧
    ∀ (i : Instr) (kind : Byte) (states : List ChannelState), (i, kind, states) ∈ movers tag code →
      let r : Request := ⟨.unit, kind, tag, [code]⟩
      (8 ≤ code.toNat → exec i s = .next (refuses r .outOfRange 0 (heard s))) ∧
      ∀ c : Channel, code.toNat = channelCode c →
        (s.cfg.part = .operating → s.cfg.absent.get c = true →
          exec i s = .next (refuses r .absent 0 (heard s))) ∧
        (Named s code c → (kind = 0x18 → isElectric c = true → s.cfg.part = .operating) →
          (s.chan c).state ∉ states →
            exec i s = .next (refuses r .wrongState (stateCode (s.chan c).state) (heard s)))

/-- R15, R18: START is refused BLOCKED on the first plant check that fails, and otherwise makes a READY
channel RUNNING with a fresh second and last end cause NONE and enters stage 0. SKIP ends the current
stage CUT and enters the next. Both reply where the channel then stands. -/
def Obligations.StartAndSkipEnterAStage : Prop :=
  ∀ (tag code : Byte) (c : Channel) (s : State), free s →
    (NamedToRun s code c → (s.chan c).state = .ready →
      let r : Request := ⟨.unit, 0x18, tag, [code]⟩
      let supply := isElectric c = true ∧ s.out.supplyOff = true
      let element := (∃ h, hobHeater c = some h ∧ (s.heaterOut h).failed = true) ∨
        c = .ov ∧ (∃ h, (s.install (ovenHeaterAsHeater h)).installed = true) ∧
          ∀ h, works s h = false
      let probe := c = .ov ∧ s.ovr.fault = true
      (supply → exec (.start tag code) s = .next (refuses r .blocked 2 (heard s))) ∧
      (¬ supply → element → exec (.start tag code) s = .next (refuses r .blocked 1 (heard s))) ∧
      (¬ supply → ¬ element → probe →
        exec (.start tag code) s = .next (refuses r .blocked 3 (heard s))) ∧
      (¬ supply → ¬ element → ¬ probe →
        let u := sync c (enterStage c 0 ((heard s).setChan c
          { s.chan c with state := .running, lastEnd := .none, secondTimer := some 0 }))
        exec (.start tag code) s = .next (accepts r (standing c u) u))) ∧
    (Named s code c → (s.chan c).state = .running →
      ∀ p : PoolRecord, (s.chan c).plan[(s.chan c).stageIndex]? = some p →
        let u := sync c (enterStage c ((s.chan c).stageIndex + 1)
          (ended c (s.chan c).stageIndex p.spec .cut (heard s)))
        exec (.skip tag code) s = .next (accepts ⟨.unit, 0x1B, tag, [code]⟩ (standing c u) u))

/-- R31, R32, R34, R35, R82, R84, R87: the entry of stage i. Past the last record the plan is COMPLETE;
a CLEAN-ONLY stage after CUT or FLUSHED is flushed and the next one tried; any other stage becomes
CURRENT. On OV a BAKE stage is taken by OVR, which may find its set empty by failure or its target
reached at once, and END-ON-TARGET then ends the stage in the same entry (log 14). -/
def Obligations.EnteringAStage : Prop :=
  ∀ (c : Channel) (i : Nat) (s : State),
    let r := s.chan c
    (r.plan[i]? = none → enterStage c i s =
      raise { kind := .planEnd, subject := channelCode c, detail1 := 1, detail2 := r.plan.length }
        (s.setChan c (done r .complete))) ∧
    ∀ p : PoolRecord, r.plan[i]? = some p →
      (flushed p.spec r.lastEnd → enterStage c i s = enterStage c (i + 1)
        (stageEnd c i p.spec .flushed
          (s.setChan c { r with plan := marked r i .flushed, lastEnd := .flushed }))) ∧
      (¬ flushed p.spec r.lastEnd →
        let e := s.setChan c (entered r i p.spec)
        (c ≠ .ov → enterStage c i s = e) ∧
        (c = .ov → (∀ m t, p.spec.kind ≠ .bake m t) → enterStage c i s = noBake .wait e) ∧
        ∀ m t, c = .ov → p.spec.kind = .bake m t →
          let b := bakeTaken m t p.spec.preheat e
          let failure := failedSet s b.ovr.source m
          let target := ∃ f, s.tempF = some f ∧ t ≤ f
          (failure → enterStage c i s =
            raise { kind := .channelHalted, subject := 6, detail1 := 1, detail2 := i }
              (b.setChan .ov (halted (b.chan .ov) .element))) ∧
          (¬ failure → ¬ target → enterStage c i s = b) ∧
          (¬ failure → target → p.spec.endOnTarget = false → enterStage c i s = reached i b) ∧
          (¬ failure → target → p.spec.endOnTarget = true →
            enterStage c i s = enterStage .ov (i + 1) (ended .ov i p.spec .target (reached i b))))

/-- R16, R17, R19, R20: PAUSE stops the second timer and starts the pause timer at 600 s; RESUME does the
reverse, with OV's target checked; STOP and CLEAR empty the channel and free its plan; STOP in EMPTY
changes nothing. Sync hands on what each changes. -/
def Obligations.PauseResumeStopAndClear : Prop :=
  ∀ (tag code : Byte) (c : Channel) (s : State), free s → Named s code c →
    let r := s.chan c
    let req (kind : Byte) : Request := ⟨.unit, kind, tag, [code]⟩
    (r.state = .running →
      exec (.pause tag code) s = .next (accepts (req 0x19)
        [byteOf (channelCode c), 3, byteOf r.stageIndex]
        (sync c ((heard s).setChan c { r with
          state := .paused, secondTimer := none, pauseTimer := some { left := 600, phase := 0 } })))) ∧
    (r.state = .paused →
      let v := (heard s).setChan c { r with
        state := .running, pauseTimer := none, secondTimer := some 0 }
      let u := sync c (if c = .ov then targetCheck v else v)
      exec (.resume tag code) s = .next (accepts (req 0x1A) (standing c u) u)) ∧
    (r.state = .empty →
      exec (.stop tag code) s = .next (accepts (req 0x1C) (standing c s) (heard s))) ∧
    (r.state = .ready ∨ r.state = .running ∨ r.state = .paused →
      exec (.stop tag code) s = .next (accepts (req 0x1C) [byteOf (channelCode c), 0, 0]
        (sync c (emptied c (heard s))))) ∧
    (r.state = .done ∨ r.state = .halted →
      exec (.clear tag code) s = .next (accepts (req 0x1D) [byteOf (channelCode c), 0, 0]
        (sync c (emptied c (heard s)))))

/-- R21, R121, R162: STOP ALL empties every channel and every plan, closes the load context, drops the
demands with their placements and commands, and sends every burner that is not OFF to WAIT-CLOSE. Faults, flags, notices and the read cursor
stay. To the broadcast address it is not answered; in LOCKED a broadcast one does nothing. -/
def Obligations.StopAllEmptiesEverything : Prop :=
  ∀ (tag : Byte) (s : State), free s →
    (s.cfg.part = .locked → exec (.stopAll true tag) s = .next (heard s)) ∧
    (s.cfg.part ≠ .locked → ∃ u : State,
      exec (.stopAll true tag) s = .next u ∧
      exec (.stopAll false tag) s = .next (accepts ⟨.unit, 0x20, tag, []⟩ [] u) ∧
      (∀ c : Channel, u.chan c =
        { state := .empty, plan := [], stageIndex := 0, segIndex := 0, segCount := 0,
          remaining := .timed 0, secondTimer := none, pauseTimer := none, lastEnd := .none,
          haltCause := .none, planEnd := .none
          level := if (hobHeater c).isSome then 0 else (s.chan c).level }) ∧
      u.pst = { free := s.pst.free + ownedRecords s, load := none } ∧
      (∀ n : Burner, u.burner n =
        if (s.burner n).state = .off then { s.burner n with permit := true }
        else { atRest (s.burner n) .waitClose with permit := true }) ∧
      u.bsv.queue = s.bsv.queue.filter (fun n => decide ((s.burner n).state = .off)) ∧
      (∀ n : Burner, s.bsv.owner = some n → (s.burner n).state ≠ .off →
        u.bsv.owner = none ∧ u.bsv.rest = some 500 ∧ u.bsv.hold = .tail 300) ∧
      (s.bsv.owner = none →
        u.bsv.owner = none ∧ u.bsv.rest = s.bsv.rest ∧ u.bsv.hold = s.bsv.hold) ∧
      demandsDropped (fun _ => True) s u ∧
      u.ovr = { s.ovr with
        context := .none, active := ⟨false, false, false⟩, fanMark := false
        boostEndPending := false, ovenFan := false, lamp := decide (s.ovr.doorState = .opened)
        handed := u.ovr.handed, coolingFan := u.ovr.coolingFan
        fanJustOff := u.ovr.fanJustOff } ∧
      u = { heard s with
        plr := { s.plr with chans := u.plr.chans }
        pst := u.pst
        pfs := { s.pfs with heaters := u.pfs.heaters }
        ovr := u.ovr
        bsv := u.bsv
        out := { s.out with heaters := u.out.heaters } })

/-- R42: every ADJUST is checked in order: the channel, the adjustment code, the value's range, the channel
state, and the kind of stage the adjustment needs. -/
def Obligations.AdjustsAreCheckedInOrder : Prop :=
  ∀ (tag code : Byte) (v : BitVec 24) (s : State), free s → s.cfg.part ≠ .locked →
    let r (adjustment : Byte) : Request := ⟨.unit, 0x1E, tag, [code, adjustment] ++ be24 v.toNat⟩
    adjustRefusals (.adjustTime tag code v) (r 0) code (-86399 ≤ v.toInt ∧ v.toInt ≤ 86399) 4
      (fun left _ => ∃ n, left = .timed n) s ∧
    adjustRefusals (.adjustLevel tag code v) (r 1) code (1 ≤ v.toNat ∧ v.toNat ≤ 12) 5
      (fun _ kind => ∃ n, kind = .level n) s ∧
    adjustRefusals (.adjustSetpoint tag code v) (r 2) code (30 ≤ v.toNat ∧ v.toNat ≤ 275) 11
      (fun _ kind => ∃ m t, kind = .bake m t) s ∧
    ∀ (other : Byte) (value : List Byte), 3 ≤ other.toNat → value.length = 3 →
      let body := [code, other] ++ value
      let q : Request := ⟨.unit, 0x1E, tag, body⟩
      let i : Instr := .unknownKindRequest 0x1E tag body
      (8 ≤ code.toNat → exec i s = .next (refuses q .outOfRange 1 (heard s))) ∧
      ∀ c : Channel, code.toNat = channelCode c →
        (s.cfg.part = .operating → s.cfg.absent.get c = true →
          exec i s = .next (refuses q .absent 0 (heard s))) ∧
        (Named s code c → exec i s = .next (refuses q .outOfRange 2 (heard s)))

/-- R43, R44: ADJUST TIME moves the remaining time and the duration by the effective delta, which leaves
the unrun part at least 1 s and the duration at most 86,399 s. On a RAMP the unrun part is that of the
last segment. The reply carries the remaining time before and after. -/
def Obligations.AdjustTimeMovesTheStageEnd : Prop :=
  ∀ (tag code : Byte) (d : BitVec 24) (c : Channel) (p : PoolRecord) (n : Nat) (s : State), free s →
    Named s code c → (s.chan c).state = .running ∨ (s.chan c).state = .paused →
    (s.chan c).remaining = .timed n → (s.chan c).plan[(s.chan c).stageIndex]? = some p →
    -86399 ≤ d.toInt → d.toInt ≤ 86399 →
      let r := s.chan c
      let unrun : Nat :=
        match p.spec.kind with
        | .ramp _ _ l =>
          if r.segIndex + 1 = r.segCount then n else p.spec.duration - (r.segCount - 1) * l
        | .level _ | .wait | .bake _ _ | .flame => n
      let e : Int := limited unrun p.spec.duration d.toInt
      exec (.adjustTime tag code d) s = .next
        (accepts ⟨.unit, 0x1E, tag, [code, 0] ++ be24 d.toNat⟩
          ([byteOf (channelCode c), 0, byteOf (stateCode r.state), byteOf r.stageIndex] ++ be24 n ++
            be24 (n + e).toNat)
          ((heard s).setChan c { r with
            plan := r.plan.modify r.stageIndex (fun q =>
              { q with spec := { q.spec with duration := (q.spec.duration + e).toNat } })
            remaining := .timed (n + e).toNat }))

/-- R46, R47, R90: ADJUST LEVEL writes the level and sync hands it on. ADJUST SETPOINT writes the
setpoint in the record and in OVR, clears the target-reached flag unless T_f has reached it, and makes
the overshoot check and then the target check, an order that is the model's choice (log 31). The reply
carries the value before and after. -/
def Obligations.AdjustLevelAndSetpointAct : Prop :=
  ∀ (tag code : Byte) (v : BitVec 24) (c : Channel) (p : PoolRecord) (s : State), free s →
    Named s code c → (s.chan c).state = .running ∨ (s.chan c).state = .paused →
    (s.chan c).plan[(s.chan c).stageIndex]? = some p →
      let r := s.chan c
      let write (kind : StageKind) (keep : Bool) : State := (heard s).setChan c { r with
        plan := r.plan.modify r.stageIndex (fun q =>
          { q with spec := { q.spec with kind := kind }, targetReached := q.targetReached && keep }) }
      let reply (adjustment : Byte) (old : Nat) (u : State) : List Byte :=
        [byteOf (channelCode c), adjustment, byteOf (stateCode (u.chan c).state),
          byteOf (u.chan c).stageIndex] ++ be24 old ++ be24 v.toNat
      (∀ old, p.spec.kind = .level old → 1 ≤ v.toNat → v.toNat ≤ 12 →
        let u := sync c (write (.level v.toNat) true)
        exec (.adjustLevel tag code v) s = .next
          (accepts ⟨.unit, 0x1E, tag, [code, 1] ++ be24 v.toNat⟩ (reply 1 old u) u)) ∧
      ∀ m old, c = .ov → p.spec.kind = .bake m old → 30 ≤ v.toNat → v.toNat ≤ 275 →
        let w := write (.bake m v.toNat) (s.tempF.any (fun f => decide (v.toNat ≤ f)))
        let u := targetCheck (overshootCut (w.withOvr { s.ovr with setpoint := v.toNat }))
        exec (.adjustSetpoint tag code v) s = .next
          (accepts ⟨.unit, 0x1E, tag, [code, 2] ++ be24 v.toNat⟩ (reply 2 old u) u)

/-- R22: QUICK LEVEL: its checks, the one-stage plan it builds and runs, the level it sets in a RUNNING
LEVEL stage, and level 0 as STOP; the reply carries the previous level. That a level of 1 to 12 on a
channel which a weld has just halted is refused WRONG-STATE too, where R136 and R142 say BLOCKED with
detail SUPPLY, is the model's choice (log 33). -/
def Obligations.QuickLevelSetsAZone : Prop :=
  ∀ (tag code level : Byte) (c : Channel) (s : State), free s → NamedToRun s code c →
    let n := level.toNat
    let r := s.chan c
    let req : Request := ⟨.unit, 0x1F, tag, [code, level]⟩
    let run (a : State) : Prop := exec (.quickLevel tag code level) s = .next a
    (hobHeater c = none → run (refuses req .outOfRange 2 (heard s))) ∧
    ∀ h, hobHeater c = some h →
      (13 ≤ n → run (refuses req .outOfRange 5 (heard s))) ∧
      (n = 0 →
        let previous : Nat :=
          match r.state, r.plan[r.stageIndex]? with
          | .running, some p | .paused, some p =>
            match p.spec.kind with
            | .level old => old
            | .ramp a b _ => segmentLevel a b r.segCount r.segIndex
            | .wait | .bake _ _ | .flame => 0
          | _, _ => 0
        (r.state = .empty →
          run (accepts req (standing c s ++ [byteOf previous]) (heard s))) ∧
        (r.state = .ready ∨ r.state = .running ∨ r.state = .paused →
          run (accepts req [byteOf (channelCode c), 0, 0, byteOf previous]
            (sync c (emptied c (heard s))))) ∧
        (r.state = .done ∨ r.state = .halted →
          run (refuses req .wrongState (stateCode r.state) (heard s)))) ∧
      (1 ≤ n → n ≤ 12 →
        (r.state = .empty ∨ r.state = .ready ∨ r.state = .done →
          run (
            if s.out.supplyOff then refuses req .blocked 2 (heard s)
            else if (s.heaterOut h).failed then refuses req .blocked 1 (heard s)
            else if s.pst.free + r.plan.length = 0 then refuses req .noSpace 0 (heard s)
            else accepts req [byteOf (channelCode c), 2, 0, 0]
              (sync c (((heard s).withPst
                { s.pst with free := s.pst.free + r.plan.length - 1 }).setChan c
                { state := .running
                  plan := [{ spec :=
                      { kind := .level n, notify := false, cleanOnly := false, endOnTarget := false,
                        preheat := false, duration := 0 }
                             mark := .current, targetReached := false }]
                  stageIndex := 0, segIndex := 0, segCount := 0, remaining := .untimed
                  secondTimer := some 0, pauseTimer := none, lastEnd := .none, haltCause := .none
                  planEnd := .none, level := r.level })))) ∧
        (∀ p : PoolRecord, r.state = .running → r.plan[r.stageIndex]? = some p →
          (∀ old, p.spec.kind = .level old →
            run (accepts req [byteOf (channelCode c), 2, byteOf r.stageIndex, byteOf old]
              (sync c ((heard s).setChan c { r with
                plan := r.plan.modify r.stageIndex (fun q =>
                  { q with spec := { q.spec with kind := .level n } }) })))) ∧
          ((∀ old, p.spec.kind ≠ .level old) → run (refuses req .wrongState 2 (heard s)))) ∧
        (r.state = .paused ∨ r.state = .halted →
          run (refuses req .wrongState (stateCode r.state) (heard s))))

/-! ## Reading -/

/-- R28, R48: READ CHANNEL replies the live state of a channel and changes nothing; it refuses a code of
8 or more and an ABSENT channel. -/
def Obligations.ReadChannelShowsTheChannel : Prop :=
  ∀ (tag code : Byte) (s : State), free s → s.cfg.part ≠ .locked →
    let req : Request := ⟨.unit, 0x28, tag, [code]⟩
    (8 ≤ code.toNat → exec (.readChannel tag code) s = .next (refuses req .outOfRange 0 (heard s))) ∧
    ∀ c : Channel, code.toNat = channelCode c →
      (s.cfg.part = .operating → s.cfg.absent.get c = true →
        exec (.readChannel tag code) s = .next (refuses req .absent 0 (heard s))) ∧
      (Named s code c → ((s.chan c).state = .ready → (s.chan c).plan ≠ []) →
        let r := s.chan c
        let chars (x : Remaining) : List Byte :=
          match x with
          | .timed n => be24 n
          | .untimed => [0xFF, 0xFF, 0xFF]
        let total (first : Remaining) (later : List PoolRecord) : Remaining :=
          match first with
          | .untimed => .untimed
          | .timed n =>
            if later.any (fun p => p.spec.duration == 0) then .untimed
            else .timed (n + (later.map (fun p => p.spec.duration)).sum)
        let live := r.state = .running ∨ r.state = .paused ∨ r.state = .halted
        let stage : Remaining :=
          if live then r.remaining
          else if r.state = .ready then
            total (.timed 0) (r.plan.take 1)
          else .timed 0
        let plan : Remaining :=
          if live then total r.remaining (r.plan.drop (r.stageIndex + 1))
          else if r.state = .ready then total (.timed 0) r.plan
          else .timed 0
        let demand (h : Heater) : List Byte :=
          if (s.install h).installed then [byteOf (s.heater h).frame, byteOf (s.heater h).granted]
          else [0, 0]
        let plant : List Byte :=
          match channelBurner c, hobHeater c with
          | some n, _ => [byteOf (burnerStateCode (s.burner n).state),
              byteOf (knobCode (s.burner n).knob), byteOf (s.burner n).attempts,
              byteOf (s.burner n).losses]
          | none, some h => demand h
          | none, none => demand .htop ++ demand .hbase ++ demand .hring ++
              be16 (s.tempF.getD 0xFFFF) ++
              [byteOf s.ovr.errorCounter, if s.ovr.fault then 1 else 0,
                if s.ovr.doorState = .opened then 1 else 0]
        exec (.readChannel tag code) s = .next (accepts req
          ([byteOf (channelCode c), byteOf (stateCode r.state), byteOf r.plan.length,
              byteOf r.stageIndex, if live then byteOf r.segIndex else 0] ++
            chars stage ++ chars plan ++
            [byteOf (endCode r.lastEnd), byteOf (haltCode r.haltCause),
              byteOf (planEndCode r.planEnd)] ++
            be16 (match r.pauseTimer with
              | some t => t.left
              | none => 0) ++ plant)
          (heard s)))

/-- R27, R73, R74: READ STAGE and READ STAGE NEXT reply one record with its mark and set the read cursor,
or are refused and leave it; READ FRAME replies the scheduler's record of one heater and changes nothing.
The placement set stands one bit for each slot, the lowest slot of a character in bit 0, which is the
model's choice (log 32). -/
def Obligations.ReadStageAndReadFrame : Prop :=
  (∀ (tag : Byte) (s : State), free s → s.cfg.part ≠ .locked →
    let shows (c : Channel) (i : Nat) (p : PoolRecord) : List Byte :=
      [byteOf (channelCode c), byteOf i, byteOf (markCode p.mark), byteOf (markEndCode p.mark),
        if stageKindCode p.spec.kind = 4 ∧ p.targetReached = true then 1 else 0] ++
        recordChars p.spec
    let reads (c : Channel) (i : Nat) : State :=
      (heard s).withPlr { s.plr with cursor := some (c, i) }
    (∀ code index : Byte,
      let req : Request := ⟨.unit, 0x29, tag, [code, index]⟩
      (8 ≤ code.toNat →
        exec (.readStage tag code index) s = .next (refuses req .outOfRange 0 (heard s))) ∧
      ∀ c : Channel, code.toNat = channelCode c →
        (s.cfg.part = .operating → s.cfg.absent.get c = true →
          exec (.readStage tag code index) s = .next (refuses req .absent 0 (heard s))) ∧
        (Named s code c →
          ((s.chan c).plan[index.toNat]? = none → exec (.readStage tag code index) s =
            .next (refuses req .outOfRange (s.chan c).plan.length (heard s))) ∧
          ∀ p : PoolRecord, (s.chan c).plan[index.toNat]? = some p →
            exec (.readStage tag code index) s =
              .next (accepts req (shows c index.toNat p) (reads c index.toNat)))) ∧
    let req : Request := ⟨.unit, 0x29, tag, []⟩
    (s.plr.cursor = none →
      exec (.readStageNext tag) s = .next (refuses req .wrongState 0 (heard s))) ∧
    ∀ (c : Channel) (i : Nat), s.plr.cursor = some (c, i) →
      ((s.chan c).plan[i + 1]? = none →
        exec (.readStageNext tag) s = .next (refuses req .outOfRange 0 (heard s))) ∧
      ∀ p : PoolRecord, (s.chan c).plan[i + 1]? = some p →
        exec (.readStageNext tag) s =
          .next (accepts req (shows c (i + 1) p) (reads c (i + 1)))) ∧
  (∀ (tag code : Byte) (s : State), free s → s.cfg.part ≠ .locked →
    let req : Request := ⟨.unit, 0x2A, tag, [code]⟩
    (6 ≤ code.toNat → exec (.readFrame tag code) s = .next (refuses req .outOfRange 1 (heard s))) ∧
    ∀ h : Heater, code.toNat = heaterCode h →
      let r := s.heater h
      exec (.readFrame tag code) s = .next
        (if s.cfg.part = .operating ∧ (s.install h).installed = false then
          refuses req .absent 0 (heard s)
        else accepts req
          ([byteOf (heaterCode h), byteOf (schedCode s.pfs.sched)] ++ be16 s.pfs.frameNumber ++
            [byteOf s.pfs.slot.val, byteOf r.requested, byteOf r.frame, byteOf r.granted,
              byteOf r.starve, byteOf (maskOf [r.promoted, r.late, r.relay]),
              byteOf (holdCode r.hold)] ++
            placementChars r.placed ++ be16 (s.pfs.capacity.get s.pfs.slot))
          (heard s))) ∧
  ∀ (placed : Slots Bool) (i : Fin 32), (placementChars placed).length = 4 ∧
    ((placementChars placed).getD (i.val / 8) 0).getLsbD (i.val % 8) = placed.get i

/-! ## Notices -/

/-- R145, R146, R148, R149, R151: a raised notice joins a queue of fewer than 16 or sets overflow; FETCH
NOTICES takes the oldest and may re-arm; ARM ATTENTION arms; the spacing timer's expiry stops it. The
assertion check follows each of the four. A spacing timer that is stopped has no expiry (log 3). -/
def Obligations.NoticesAreQueuedAndFetched : Prop :=
  (∀ (n : Notice) (s : State), raise n s = s.withNtq
    (if s.ntq.frozen then s.ntq
    else if s.ntq.queue.length < 16 then
      checked s.cfg.spacing { s.ntq with queue := s.ntq.queue ++ [n] }
    else { s.ntq with overflow := true })) ∧
  (∀ (tag maximum rearm : Byte) (s : State), free s → s.cfg.part ≠ .locked →
    let req : Request := ⟨.unit, 0x30, tag, [maximum, rearm]⟩
    let fits := 1 ≤ maximum.toNat ∧ maximum.toNat ≤ 5
    let q := s.ntq
    let taken := q.queue.take maximum.toNat
    let rest := q.queue.drop maximum.toNat
    let after : Ntq := { q with queue := rest, overflow := false, attn := q.attn && !rest.isEmpty }
    (¬ fits →
      exec (.fetchNotices tag maximum rearm) s = .next (refuses req .outOfRange 1 (heard s))) ∧
    (fits → 2 ≤ rearm.toNat →
      exec (.fetchNotices tag maximum rearm) s = .next (refuses req .outOfRange 2 (heard s))) ∧
    (fits → rearm.toNat ≤ 1 →
      exec (.fetchNotices tag maximum rearm) s = .next (accepts req
        ([byteOf taken.length, if q.overflow then 1 else 0, byteOf rest.length] ++
          taken.flatMap (fun n =>
            [byteOf (noticeCode n.kind), byteOf n.subject, byteOf n.detail1, byteOf n.detail2]))
        ((heard s).withNtq
          (if rearm.toNat = 1 then checked s.cfg.spacing { after with armed := true } else after))))) ∧
  (∀ (tag : Byte) (s : State), free s → s.cfg.part ≠ .locked →
    let q := checked s.cfg.spacing { s.ntq with armed := true }
    exec (.armAttention tag) s = .next (accepts ⟨.unit, 0x31, tag, []⟩
      [byteOf q.queue.length, if q.attn then 1 else 0] ((heard s).withNtq q))) ∧
  ∀ s : State,
    (∀ n, s.ntq.spacing = some n → exec .spacingTimerExpiry s =
      .next (s.withNtq (checked s.cfg.spacing { s.ntq with spacing := none }))) ∧
    (s.ntq.spacing = none → exec .spacingTimerExpiry s = .next s)

/-! ## The seconds of a channel -/

/-- R30, R33, R41, R36: a completed second takes one second off a timed stage, moves a RAMP to its next
segment at the boundary, and at 0 ends the stage ELAPSED and enters the next, which STAGE_ELAPSED does
at once (log 12). The pause timer counts down, and at 0 the plan ends PAUSE-EXPIRED with its current
stage cut. A timer that is stopped acts on nothing (log 3). -/
def Obligations.SecondsRunTheStage : Prop :=
  ∀ (c : Channel) (s : State),
    let r := s.chan c
    let i := r.stageIndex
    (∀ k, r.state = .running → r.secondTimer = some k →
      (r.remaining = .untimed →
        exec (.channelSecond c) s = .next (s.setChan c { r with secondTimer := some 0 }) ∧
        exec (.stageElapsed c) s = .next s) ∧
      ∀ (p : PoolRecord) (n : Nat), r.plan[i]? = some p → r.remaining = .timed n →
        let ran : ChannelRec := { r with secondTimer := some 0, remaining := .timed (n - 1) }
        let boundary := ∃ a b l, p.spec.kind = .ramp a b l ∧ r.segIndex + 1 < r.segCount ∧
          n - 1 = (p.spec.duration - (r.segCount - 1) * l) + (r.segCount - 2 - r.segIndex) * l
        (2 ≤ n → ¬ boundary → exec (.channelSecond c) s = .next (s.setChan c ran)) ∧
        (2 ≤ n → boundary → exec (.channelSecond c) s =
          .next (sync c (s.setChan c { ran with segIndex := r.segIndex + 1 }))) ∧
        (n ≤ 1 → exec (.channelSecond c) s = exec (.stageElapsed c) s) ∧
        exec (.stageElapsed c) s = .next (sync c (enterStage c (i + 1)
          (ended c i p.spec .elapsed
            (s.setChan c { r with secondTimer := some 0, remaining := .timed 0 }))))) ∧
    (r.state ≠ .running ∨ r.secondTimer = none →
      exec (.channelSecond c) s = .next s ∧ exec (.stageElapsed c) s = .next s) ∧
    (∀ t, r.pauseTimer = some t →
      (2 ≤ t.left → exec (.pauseTimerSecond c) s =
        .next (s.setChan c { r with pauseTimer := some { left := t.left - 1, phase := 0 } })) ∧
      (t.left ≤ 1 → exec (.pauseTimerSecond c) s = exec (.pauseExpiry c) s) ∧
      ∀ p : PoolRecord, r.plan[i]? = some p →
        let v := ended c i p.spec .cut s
        exec (.pauseExpiry c) s = .next (sync c
          (raise { kind := .planEnd, subject := channelCode c, detail1 := 2, detail2 := i }
            (v.setChan c (done (v.chan c) .pauseExpired))))) ∧
    (r.pauseTimer = none →
      exec (.pauseTimerSecond c) s = .next s ∧ exec (.pauseExpiry c) s = .next s)

/-- R40: the level of segment j of k of a ramp from a to b: the step is floor((Δ·j + h) ÷ (k − 1)) with
h = floor((k − 1) ÷ 2), counted from a toward b, and the single segment of k = 1 runs at b. Segment 0
runs at a, segment k − 1 at b, and the steps never decrease. -/
def Obligations.RampLevelsStepEvenly : Prop :=
  ∀ a b k : Nat,
    segmentLevel a b 1 0 = b ∧
    (2 ≤ k →
      (∀ j, a ≤ b → segmentLevel a b k j = a + ((b - a) * j + (k - 1) / 2) / (k - 1)) ∧
      (∀ j, b < a → segmentLevel a b k j = a - ((a - b) * j + (k - 1) / 2) / (k - 1)) ∧
      segmentLevel a b k 0 = a ∧ segmentLevel a b k (k - 1) = b ∧
      ∀ i j, i ≤ j → j ≤ k - 1 →
        (a ≤ b → a ≤ segmentLevel a b k i ∧ segmentLevel a b k i ≤ segmentLevel a b k j ∧
          segmentLevel a b k j ≤ b) ∧
        (b ≤ a → b ≤ segmentLevel a b k j ∧ segmentLevel a b k j ≤ segmentLevel a b k i ∧
          segmentLevel a b k i ≤ a))

/-- R26, R38, R49, R55, R120, R123: at the end of an event PLR hands the level of Z1, Z2 or GR to PFS as
slots when it has changed, and the permit of a B channel to BSV when it has changed. A withdrawal sends
a burner that is queued, alight or retrying to WAIT-CLOSE with a TIMED-OFF notice; a return changes no
burner state. A B channel never comes to HALTED; that its permit is then withdrawn is the model's reading
(log 24). -/
def Obligations.EventsHandOnLevelsAndPermits : Prop :=
  (∀ (c : Channel) (h : Heater) (s : State), hobHeater c = some h →
    let r := s.chan c
    let level : Nat :=
      match r.state, r.plan[r.stageIndex]? with
      | .running, some p =>
        match p.spec.kind with
        | .level n => n
        | .ramp a b _ => segmentLevel a b r.segCount r.segIndex
        | .wait | .bake _ _ | .flame => 0
      | _, _ => 0
    sync c s =
      if level = r.level then s
      else demandChange h ((32 * level + 6) / 12) (s.setChan c { r with level := level })) ∧
  ∀ (c : Channel) (n : Burner) (s : State), channelBurner c = some n →
    let b := s.burner n
    let given : Bool := decide ((s.chan c).state ≠ .done) && decide ((s.chan c).state ≠ .halted)
    (b.permit = given → sync c s = s) ∧
    (b.permit = false → given = true → sync c s = s.setBurner n { b with permit := true }) ∧
    (b.permit = true → given = false →
      (b.state = .queued ∨ b.state = .igniting ∨ b.state = .burning ∨ b.state = .retryGap →
        sync c s =
          raise { kind := .burner, subject := burnerNumber n, detail1 := 3,
                  detail2 := planEndCode (s.chan c).planEnd }
            ((s.withBsv (left n s.bsv)).setBurner n
              { atRest b .waitClose with permit := false })) ∧
      (b.state = .off ∨ b.state = .lockout ∨ b.state = .waitClose →
        sync c s = s.setBurner n { b with permit := false }))

/-! ## The power frame -/

/-- R61 to R65, R68, R69: what a handed change of demand does: nothing to a held heater, and nothing while
STOPPED, where no channel runs but after the part is LOCKED (R55, R72; the model's reading, log 28);
written while STARTING; while RUNNING a drop to zero releases the heater at once and withholds its
capacity, a rise from zero is placed late, and any other change waits for the next frame. -/
def Obligations.DemandChangesAreClassed : Prop :=
  ∀ (h : Heater) (d : Nat) (s : State),
    let r := s.heater h
    (r.hold ≠ .none → demandChange h d s = s) ∧
    (s.pfs.sched = .stopped → demandChange h d s = s) ∧
    (r.hold = .none → s.pfs.sched = .starting →
      demandChange h d s = s.setHeater h { r with requested := d }) ∧
    (r.hold = .none → s.pfs.sched = .running →
      (d = r.requested → demandChange h d s = s) ∧
      (d = 0 → 0 < r.requested →
        let on := r.relay && !r.placed.get s.pfs.slot
        let v := (s.setHeater h
            { r with requested := 0, frame := 0, placed := noSlots, granted := 0, relay := on }
          ).setHeaterOut h (handed (s.install h).installed r.relay on (s.heaterOut h))
        demandChange h d s =
          if r.relay = true ∧ on = false ∧ feedsCoolingFan h = true then evalCoolingFan v else v) ∧
      (0 < d → r.requested = 0 →
        let w := placeWalk (s.install h).rating (d * (31 - s.pfs.slot.val) / 32)
          (lateWalk s.pfs.slot) { capacity := s.pfs.capacity, placed := noSlots, granted := 0 }
        demandChange h d s = (s.withPfs { s.pfs with capacity := w.capacity }).setHeater h
          { r with
            requested := d, frame := d, late := true, placed := w.placed, granted := w.granted }) ∧
      (0 < d → 0 < r.requested → demandChange h d s = s.setHeater h { r with requested := d }))

/-- R58, R63: a walk places a heater of rating P in the first slots of its order with P watts free, as
many as its demand still asks, lowers the capacity of just these by P, and counts them. A frame walk
visits o, o + 1, … 31, 0, … o − 1, a late walk the slots after the current one. -/
def Obligations.WalksTakeTheFirstSlotsThatFit : Prop :=
  (∀ (P d : Nat) (order : List (Fin 32)) (w : Placement), order.Nodup →
    let taken := (order.filter (fun i => decide (P ≤ w.capacity.get i))).take (d - w.granted)
    let t := placeWalk P d order w
    t.granted = w.granted + taken.length ∧
    ∀ i : Fin 32,
      t.placed.get i = (w.placed.get i || taken.contains i) ∧
      t.capacity.get i = if i ∈ taken then w.capacity.get i - P else w.capacity.get i) ∧
  (∀ o : Nat, (frameWalk o).length = 32 ∧
    ∀ j : Nat, j < 32 → ((frameWalk o)[j]?.map (fun i => i.val)) = some ((o + j) % 32)) ∧
  ∀ s : Fin 32, (lateWalk s).map (fun i => i.val) = (List.range 32).drop (s.val + 1)

/-- R53, R70, R71, R97: a slot boundary that is no frame boundary moves to the next slot, sets every
installed heater's command from its placement set, hands the changes to OUT, and has the cooling fan
evaluated when a command it follows has changed. Nothing else changes. After slot 31, and while no frame
runs, SLOT_BOUNDARY does nothing (log 11). -/
def Obligations.SlotBoundarySetsTheCommands : Prop :=
  ∀ s : State,
    (s.pfs.sched ≠ .running ∨ s.pfs.slot.val = 31 → exec .slotBoundary s = .next s) ∧
    (s.pfs.sched = .running → s.pfs.slot.val < 31 → ∃ t : State,
      exec .slotBoundary s = .next t ∧ t.pfs.slot.val = s.pfs.slot.val + 1 ∧
      (∀ h : Heater,
        t.heater h = { s.heater h with
          relay := if (s.install h).installed then (s.heater h).placed.get t.pfs.slot
            else (s.heater h).relay } ∧
        t.heaterOut h = handed (s.install h).installed (s.heater h).relay (t.heater h).relay
          (s.heaterOut h)) ∧
      t.pfs = { s.pfs with slot := t.pfs.slot, slotTimer := some 1000, heaters := t.pfs.heaters } ∧
      t.out = { s.out with heaters := t.out.heaters } ∧
      ((∃ h, feedsCoolingFan h = true ∧ (s.heater h).relay ≠ (t.heater h).relay) →
        let fan := coolingFanValue (ovenOrGrillOn t) s.tempF s.ovr.coolingFan
        t.ovr = { s.ovr with
          coolingFan := fan, fanJustOff := (s.ovr.coolingFan || s.ovr.fanJustOff) && !fan }) ∧
      ((∀ h, feedsCoolingFan h = true → (s.heater h).relay = (t.heater h).relay) → t.ovr = s.ovr) ∧
      t = { s with pfs := t.pfs, out := t.out, ovr := t.ovr })

/-- R54 steps 5 to 8, R57, R58, R59, R68: after the oven has been asked, a frame boundary gives every
installed heater its frame demand, places the promoted group and then the others, each in rank order, by
their walks from full capacity, updates the starve counts and sets the commands of slot 0. A heater not
installed keeps its record. While STOPPED no boundary acts; that a boundary acts at whatever slot it finds
is the model's choice (log 11). -/
def Obligations.FrameBoundaryPlacesTheHeaters : Prop :=
  ∀ s : State,
    (s.pfs.sched = .stopped → exec .frameBoundary s = .next s) ∧
    (s.pfs.sched ≠ .stopped → (∀ h, (s.install h).rank ≤ 6) →
      let a := frameOven (openFrame s)
      ∃ t : State, exec .frameBoundary s = .next t ∧
        (∀ h : Heater, (s.install h).installed = true →
          let before := a.heater h
          let now := t.heater h
          let promoted := decide (before.starve = 3)
          now = { before with
            frame := if before.hold = .none then before.requested else 0
            promoted := promoted
            placed := now.placed
            granted := now.granted
            starve :=
              if promoted then 0
              else if 0 < now.frame ∧ now.granted < now.frame then min 3 (before.starve + 1)
              else 0
            relay := now.placed.get 0 }) ∧
        (∀ h : Heater, (s.install h).installed = false → t.heater h = a.heater h) ∧
        (∀ h : Heater, t.heaterOut h =
          handed (s.install h).installed (a.heater h).relay (t.heater h).relay (a.heaterOut h)) ∧
        (∀ first others : List Heater,
          (∀ h, h ∈ first ↔ (s.install h).installed = true ∧ (a.heater h).starve = 3) →
          (∀ h, h ∈ others ↔ (s.install h).installed = true ∧ (a.heater h).starve ≠ 3) →
          first.Pairwise (fun g h => (s.install g).rank < (s.install h).rank) →
          others.Pairwise (fun g h => (s.install g).rank < (s.install h).rank) →
            let all := walks t (first ++ others) a.pfs.capacity
            (∀ q ∈ all, (t.heater q.1).placed = q.2.placed ∧ (t.heater q.1).granted = q.2.granted) ∧
            t.pfs.capacity = ((all.getLast?).map (fun q => q.2.capacity)).getD a.pfs.capacity) ∧
        t.pfs = { a.pfs with capacity := t.pfs.capacity, heaters := t.pfs.heaters } ∧
        t.out = { a.out with heaters := t.out.heaters } ∧
        ((∃ h, feedsCoolingFan h = true ∧ (a.heater h).relay ≠ (t.heater h).relay) →
          let fan := coolingFanValue (ovenOrGrillOn t) a.tempF a.ovr.coolingFan
          t.ovr = { a.ovr with
            coolingFan := fan, fanJustOff := (a.ovr.coolingFan || a.ovr.fanJustOff) && !fan }) ∧
        ((∀ h, feedsCoolingFan h = true → (a.heater h).relay = (t.heater h).relay) →
          t.ovr = a.ovr) ∧
        t = { a with pfs := t.pfs, out := t.out, ovr := t.ovr })

/-- R52, R54 steps 1 to 4, R88: a frame boundary counts the frame, empties the placements, sets every
slot to the budget, and asks OVR. A pending switch from BOOST to MODE comes first, with the check of the
new set and the oven fan; then every oven heater's demand is recorded and, unless it is held or not
installed, requested. -/
def Obligations.FrameBoundaryAsksTheOven : Prop :=
  ∀ s : State,
    let o := openFrame s
    let asks (u : State) : State :=
      (u.withOvr { u.ovr with handed :=
        { top := heaterDemand u .top, base := heaterDemand u .base, ring := heaterDemand u .ring }
        }).withPfs { u.pfs with heaters := u.pfs.heaters.map (fun h r =>
          match asOvenHeater h with
          | some g =>
            if r.hold = .none ∧ (u.install h).installed = true then
              { r with requested := heaterDemand u g }
            else r
          | none => r) }
    let b := o.withOvr { o.ovr with
      source := .mode, boostEndPending := false, active := activeSet o .mode o.ovr.mode
      fanMark := rowFan .mode o.ovr.mode }
    let fan (u : State) : State := u.withOvr { u.ovr with
      ovenFan := decide ((u.chan .ov).state = .running) && decide (u.ovr.context = .bake) &&
        u.ovr.fanMark && decide (u.ovr.doorState = .shut) }
    let fails := o.ovr.context = .bake ∧ failedSet o .mode o.ovr.mode ∧
      ((o.chan .ov).state = .running ∨ (o.chan .ov).state = .paused)
    o = s.withPfs { s.pfs with
      sched := .running, frameNumber := (s.pfs.frameNumber + 1) % 65536, slot := 0
      capacity := Vector.replicate 32 (s.cfg.budget.getD 0), slotTimer := some 1000
      heaters := s.pfs.heaters.map (fun h r =>
        if (s.install h).installed then
          { r with placed := noSlots, granted := 0, promoted := false, late := false }
        else r) } ∧
    (s.ovr.boostEndPending = false → frameOven o = asks o) ∧
    (s.ovr.boostEndPending = true → ¬ fails → frameOven o = asks (fan b)) ∧
    (s.ovr.boostEndPending = true → fails → frameOven o = asks (fan (sync .ov
      (raise { kind := .channelHalted, subject := 6, detail1 := 1
               detail2 := (s.chan .ov).stageIndex }
        (b.setChan .ov (halted (b.chan .ov) .element))))))

/-! ## The oven -/

/-- R78, R83, R85: T_f is the floor of the mean of the probe buffer, undefined while it is empty. The
demand of an oven heater is 0 outside the active set, for HRING while the door is open, while OV does not
bake, in DEFROST, and while T_f is undefined or at the setpoint; otherwise it is the least number of
slots that covers 32·e ÷ band for e degrees missing, at most 32. -/
def Obligations.OvenDemandIsProportional : Prop :=
  ∀ (h : OvenHeater) (s : State),
    let bakes := (s.chan .ov).state = .running ∧ s.ovr.context = .bake ∧ s.ovr.mode ≠ .defrost
    let takes := s.ovr.active.get h = true ∧ ¬ (h = .ring ∧ s.ovr.doorState = .opened)
    let d := heaterDemand s h
    (s.ovr.buffer = [] → s.tempF = none) ∧
    (s.ovr.buffer ≠ [] → s.tempF = some (s.ovr.buffer.sum / s.ovr.buffer.length)) ∧
    (¬ bakes ∨ ¬ takes ∨ s.tempF = none → d = 0) ∧
    ∀ f, s.tempF = some f → bakes → takes →
      (s.ovr.setpoint ≤ f → d = 0) ∧
      (f < s.ovr.setpoint → 0 < s.cfg.band →
        let e := s.ovr.setpoint - f
        1 ≤ d ∧ d ≤ 32 ∧ (d < 32 → 32 * e ≤ d * s.cfg.band) ∧ (d - 1) * s.cfg.band < 32 * e)

/-- R49, R66, R82, R86, R95, R96: at the end of an event on OV, OVR drops its BAKE stage when OV
holds none, hands each installed oven heater, in rank order, its demand where that differs from the
handed one, and sets the oven fan and the lamp. -/
def Obligations.EventsHandOnTheOven : Prop :=
  ∀ s : State, (∀ h, (s.install h).rank ≤ 6) →
    let v : State :=
      if (s.chan .ov).state = .empty ∨ (s.chan .ov).state = .ready ∨ (s.chan .ov).state = .done then
        noBake .none s
      else s
    let bakes := (s.chan .ov).state = .running ∧ v.ovr.context = .bake
    let outputs (u : State) : State := u.withOvr { u.ovr with
      ovenFan := decide bakes && v.ovr.fanMark && decide (v.ovr.doorState = .shut)
      lamp := decide bakes || decide (v.ovr.doorState = .opened) }
    ∀ order : List OvenHeater,
      (∀ h, h ∈ order ↔ (s.install (ovenHeaterAsHeater h)).installed = true) →
      order.Pairwise (fun g h =>
        (s.install (ovenHeaterAsHeater g)).rank < (s.install (ovenHeaterAsHeater h)).rank) →
        sync .ov s = outputs (order.foldl (fun u h =>
          if v.ovr.handed.get h = heaterDemand v h then u
          else demandChange (ovenHeaterAsHeater h) (heaterDemand v h)
            (u.withOvr { u.ovr with handed := u.ovr.handed.set h (heaterDemand v h) })) v)

/-- R77 to R81, R87, R91, R97, R23: a reading starts the next period. One outside 0 to 330 degrees raises
the error counter by 2, at most to 16, and at 8 sets the probe fault, which halts OV. A valid one joins
the last four, lowers the counter, clears the fault at 0, and makes the target check, the overshoot check
and the cooling fan's evaluation, in that order, which is the model's choice (log 31). While the probe
timer is stopped nothing is read (log 3). R99: a fan that keeps its state keeps the one it had before a relay
command went off in this moment; that a moment lasts until a millisecond passes is read so (log 35). -/
def Obligations.ProbeReadingsAreTaken : Prop :=
  ∀ (reading : Int) (s : State), s.ovr.buffer.length ≤ 4 →
    let o := s.ovr
    let shown := s.withPins { s.pins with prb := reading }
    let cooling (u : State) : Bool :=
      match ovenOrGrillOn u, u.tempF with
      | true, _ => true
      | false, none => false
      | false, some f =>
        decide (60 ≤ f) || (decide (50 ≤ f) && (u.ovr.coolingFan || u.ovr.fanJustOff))
    let cooled (u : State) : State :=
      u.withOvr { u.ovr with coolingFan := cooling u, fanJustOff := false }
    (o.probeTimer = none → exec (.probeReading reading) s = .next shown) ∧
    (∀ k, o.probeTimer = some k →
      (reading < 0 ∨ 330 < reading →
        let n := min 16 (o.errorCounter + 2)
        let u := shown.withOvr { o with probeTimer := some 1000, errorCounter := n }
        let w := raise { kind := .probe, subject := 6, detail1 := 1, detail2 := n }
          (u.withOvr { u.ovr with fault := true })
        let active := (s.chan .ov).state = .running ∨ (s.chan .ov).state = .paused
        (o.fault = true ∨ n < 8 → exec (.probeReading reading) s = .next u) ∧
        (o.fault = false → 8 ≤ n → ¬ active → exec (.probeReading reading) s = .next w) ∧
        (o.fault = false → 8 ≤ n → active → exec (.probeReading reading) s = .next (sync .ov
          (raise { kind := .channelHalted, subject := 6, detail1 := 3
                   detail2 := (s.chan .ov).stageIndex }
            (w.setChan .ov (halted (w.chan .ov) .probe)))))) ∧
      (0 ≤ reading → reading ≤ 330 →
        let n := o.errorCounter - 1
        let buffer := (if o.buffer.length < 4 then o.buffer else o.buffer.tail) ++ [reading.toNat]
        let u := shown.withOvr { o with
          probeTimer := some 1000, errorCounter := n, buffer := buffer
          fault := o.fault && decide (n ≠ 0) }
        let w :=
          if o.fault = true ∧ n = 0 then
            raise { kind := .probe, subject := 6, detail1 := 2, detail2 := 0 } u
          else u
        exec (.probeReading reading) s = .next (cooled (overshootCut (targetCheck w)))))

/-- R34, R87, R91: a target is found once in a stage, while OV runs a BAKE stage and T_f has reached the
setpoint; an END-ON-TARGET stage then ends. At the setpoint plus the overshoot limit every installed oven
heater that has a demand handed is handed 0 and is dropped: each command that goes off is handed to OUT, the
cooling fan follows (R62, R71, R97, R127, R130), and no notice, flag, other fan or lamp is touched. -/
def Obligations.TargetAndOvershootAct : Prop :=
  ∀ s : State, (∀ h, (s.install h).rank ≤ 6) →
    let bakes := (s.chan .ov).state = .running ∧ s.ovr.context = .bake
    let i := (s.chan .ov).stageIndex
    (¬ bakes ∨ s.tempF = none → targetCheck s = s ∧ overshootCut s = s) ∧
    ∀ f, s.tempF = some f → bakes →
      (f < s.ovr.setpoint → targetCheck s = s) ∧
      (∀ (p : PoolRecord) (m : Mode) (t : Nat), s.ovr.setpoint ≤ f → (s.chan .ov).plan[i]? = some p →
        p.spec.kind = .bake m t → targetCheck s =
          if p.targetReached then s
          else if p.spec.endOnTarget then
            sync .ov (enterStage .ov (i + 1) (ended .ov i p.spec .target (reached i s)))
          else reached i s) ∧
      (f < s.ovr.setpoint + s.cfg.overshoot → overshootCut s = s) ∧
      (s.ovr.setpoint + s.cfg.overshoot ≤ f →
        let t := overshootCut s
        demandsDropped (fun c => c = .ov) s t ∧
        ((∀ h, (s.install (ovenHeaterAsHeater h)).installed = true → s.ovr.handed.get h = 0) →
          t = s) ∧
        t.ovr = { s.ovr with
          handed := t.ovr.handed, coolingFan := t.ovr.coolingFan, fanJustOff := t.ovr.fanJustOff } ∧
        t.pfs = { s.pfs with heaters := t.pfs.heaters } ∧
        t.out = { s.out with heaters := t.out.heaters } ∧
        t = { s with pfs := t.pfs, out := t.out, ovr := t.ovr })

/-- R92, R93, R94: a change of DOOR starts or ends the debounce; the door opening drops HRING, stops the
fan and lights the lamp; the door closing sets the fan and the lamp by their rules and hands nothing. In
LOCKED only the input line follows. That the completed debounce sets the line's level is the model's
choice (log 10). -/
def Obligations.DoorIsFollowed : Prop :=
  ∀ s : State,
    let bakes := decide ((s.chan .ov).state = .running) && decide (s.ovr.context = .bake)
    let pin (level : DoorPos) : State := s.withPins { s.pins with door := level }
    (∀ level, (level = s.pins.door → exec (.doorInputChange level) s = .next s) ∧
      (level ≠ s.pins.door →
        (s.out.locked = true → exec (.doorInputChange level) s = .next (pin level)) ∧
        (s.out.locked = false → exec (.doorInputChange level) s = .next ((pin level).withOvr
          { s.ovr with doorDebounce := if level = s.ovr.doorState then none else some 0 })))) ∧
    (s.out.locked = true → exec .doorOpened s = .next s ∧ exec .doorClosed s = .next s) ∧
    (s.out.locked = false →
      (s.ovr.doorState = .opened → exec .doorOpened s = .next s ∧
        exec .doorClosed s = .next ((pin .shut).withOvr { s.ovr with
          doorState := .shut, doorDebounce := none, ovenFan := bakes && s.ovr.fanMark
          lamp := bakes })) ∧
      (s.ovr.doorState = .shut → exec .doorClosed s = .next s ∧
        let v := (pin .opened).withOvr { s.ovr with doorState := .opened, doorDebounce := none }
        let w :=
          if s.ovr.handed.ring = 0 then v
          else demandChange .hring 0 (v.withOvr { v.ovr with handed := { s.ovr.handed with ring := 0 } })
        exec .doorOpened s = .next (w.withOvr { w.ovr with ovenFan := false, lamp := true })))

/-! ## The burners -/

/-- R103 to R105, R25: a change of KNn starts or ends the debounce. The knob opening queues the burner
when its permit is present and sends it to WAIT-CLOSE otherwise. The knob closing ends every state in
OFF with both counts 0, and empties a channel in DONE. In LOCKED only the input line follows. That the
completed debounce sets the line's level is the model's choice (log 10). -/
def Obligations.KnobsAreFollowed : Prop :=
  ∀ (n : Burner) (s : State),
    let b := s.burner n
    let pin (level : KnobPos) : State :=
      s.withPins { s.pins with knob := s.pins.knob.set n level }
    (∀ level, (level = s.pins.knob.get n → exec (.knobInputChange n level) s = .next s) ∧
      (level ≠ s.pins.knob.get n →
        (s.out.locked = true → exec (.knobInputChange n level) s = .next (pin level)) ∧
        (s.out.locked = false → exec (.knobInputChange n level) s = .next ((pin level).setBurner n
          { b with debounce := if level = b.knob then none else some 0 })))) ∧
    (s.out.locked = true → exec (.knobOpened n) s = .next s ∧ exec (.knobClosed n) s = .next s) ∧
    (s.out.locked = false → b.knob = .closed → exec (.knobClosed n) s = .next s ∧
      (b.permit = false → exec (.knobOpened n) s = .next ((pin .opened).setBurner n
        { b with knob := .opened, debounce := none, state := .waitClose })) ∧
      (b.permit = true → exec (.knobOpened n) s = .next (grantCheck
        (((pin .opened).withBsv { s.bsv with queue := s.bsv.queue ++ [n] }).setBurner n
          { b with knob := .opened, debounce := none, state := .queued, gap := none })))) ∧
    (s.out.locked = false → b.knob = .opened → exec (.knobOpened n) s = .next s ∧
      let c := burnerChannel n
      let v := ((pin .closed).withBsv (left n s.bsv)).setBurner n
        { atRest b .off with knob := .closed, debounce := none, attempts := 0, losses := 0 }
      exec (.knobClosed n) s = .next
        (if (s.chan c).state = .done then sync c (emptied c v) else v))

/-- R106 to R108, R113, R116: the generator is granted to the head of the queue while it is free and
rested, which freezes the flame watch of the burning ones; the rest timer's expiry and a burner that
joins the queue after its retry gap make the grant check. A stopped timer acts on nothing (log 3). -/
def Obligations.GeneratorIsGrantedInTurn : Prop :=
  ∀ s : State,
    (s.bsv.owner ≠ none ∨ s.bsv.rest ≠ none ∨ s.bsv.queue = [] → grantCheck s = s) ∧
    (∀ (n : Burner) (others : List Burner), s.bsv.owner = none → s.bsv.rest = none →
      s.bsv.queue = n :: others → (s.burner n).state = .queued →
        let frozen (b : BurnerRec) : BurnerRec :=
          match b.state, b.flameLoss with
          | .burning, .running run => { b with flameLoss := .frozen run }
          | _, _ => b
        grantCheck s = (s.withBsv { s.bsv with
            burners := s.bsv.burners.map (fun _ b => frozen b)
            queue := others, owner := some n, hold := .run }).setBurner n
          { s.burner n with
            state := .igniting, attemptTimer := some 4000
            proving := if s.pins.flame.get n then some 0 else none }) ∧
    (∀ k, s.bsv.rest = some k →
      exec .restTimerExpiry s = .next (grantCheck (s.withBsv { s.bsv with rest := none }))) ∧
    (s.bsv.rest = none → exec .restTimerExpiry s = .next s) ∧
    ∀ n : Burner,
      (∀ k, (s.burner n).state = .retryGap → (s.burner n).gap = some k →
        exec (.retryGapExpiry n) s = .next (grantCheck
          ((s.withBsv { s.bsv with queue := s.bsv.queue ++ [n] }).setBurner n
            { s.burner n with state := .queued, gap := none }))) ∧
      ((s.burner n).state ≠ .retryGap ∨ (s.burner n).gap = none →
        exec (.retryGapExpiry n) s = .next s)

/-- R108, R110, R111, R114, R115, R116, R118: what a flame does: the proving timer of an IGNITING burner
and the flame-loss timer of a BURNING one follow its sense; a proven flame burns and releases the
generator; a failed attempt and a lost flame lead to RETRY-GAP, or to LOCKOUT at the third attempt and the
fourth loss, with their notices; the end of the hold tail sets every frozen watch running again, in the
order of the burners' numbers, which is the model's choice (log 30). A timer that is stopped acts on
nothing (log 3). -/
def Obligations.FlamesAreProvenAndWatched : Prop :=
  ∀ (n : Burner) (s : State),
    let b := s.burner n
    let released : Bsv := { s.bsv with owner := none, rest := some 500, hold := .tail 300 }
    let notice (m : Burner) (event detail : Nat) : Notice :=
      { kind := .burner, subject := burnerNumber m, detail1 := event, detail2 := detail }
    let lose (m : Burner) (t : State) : State :=
      let k := (t.burner m).losses + 1
      let out : BurnerRec := { t.burner m with flameLoss := .stopped, losses := k }
      if 4 ≤ k then
        raise (notice m 1 2) (raise (notice m 2 k) (t.setBurner m { out with state := .lockout }))
      else raise (notice m 2 k) (t.setBurner m { out with state := .retryGap, gap := some 2000 })
    (∀ shown : Bool,
      let v := s.withPins { s.pins with flame := s.pins.flame.set n shown }
      exec (.flameSenseChange n shown) s = .next
        (if s.out.locked then v
        else
          match b.state, b.flameLoss with
          | .igniting, _ =>
            v.setBurner n { b with proving := if shown then some (b.proving.getD 0) else none }
          | .burning, .running _ =>
            if shown then v.setBurner n { b with flameLoss := .running 0 } else v
          | _, _ => v)) ∧
    (∀ k, b.state = .igniting → b.proving = some k →
      exec (.flameProven n) s = .next ((s.withBsv released).setBurner n { b with
        state := .burning, attemptTimer := none, proving := none, attempts := 0
        flameLoss := .frozen 0 })) ∧
    (b.state ≠ .igniting ∨ b.proving = none → exec (.flameProven n) s = .next s) ∧
    (∀ k, b.state = .igniting → b.attemptTimer = some k →
      let failed : BurnerRec := { b with
        attemptTimer := none, proving := none, attempts := b.attempts + 1 }
      exec (.attemptFailed n) s = .next
        (if 3 ≤ b.attempts + 1 then
          raise (notice n 1 1) ((s.withBsv released).setBurner n { failed with state := .lockout })
        else (s.withBsv released).setBurner n
          { failed with state := .retryGap, gap := some 2000 })) ∧
    (b.state ≠ .igniting ∨ b.attemptTimer = none → exec (.attemptFailed n) s = .next s) ∧
    (∀ k, b.state = .burning → b.flameLoss = .running k → s.pins.flame.get n = false →
      exec (.flameLost n) s = .next (lose n s)) ∧
    (b.state ≠ .burning ∨ s.pins.flame.get n = true ∨ (∀ k, b.flameLoss ≠ .running k) →
      exec (.flameLost n) s = .next s) ∧
    (∀ k, s.bsv.hold = .tail k → exec .holdTailEnd s = .next
      ([Burner.n1, .n2, .n3, .n4].foldl (fun t m =>
        match (t.burner m).state, (t.burner m).flameLoss with
        | .burning, .frozen run =>
          if s.pins.flame.get m then t.setBurner m { t.burner m with flameLoss := .running 0 }
          else if run < 1000 then t.setBurner m { t.burner m with flameLoss := .running run }
          else lose m t
        | _, _ => t) (s.withBsv { s.bsv with hold := .closed }))) ∧
    ((∀ k, s.bsv.hold ≠ .tail k) → exec .holdTailEnd s = .next s)

/-! ## The output stage -/

/-- R129, R130, R131, R138: a WATCHING heater disagrees when its load sense is not what the contactor and
its command lead to expect, a WELDED one not while the contactor is CLOSED. When the sense agrees again
the run is 0; SETTLING ends in WATCHING; a run that no longer stands, and a settling that is not on, act on
nothing (log 3); the proving timer stops. -/
def Obligations.LoadsAreWatched : Prop :=
  ∀ (h : Heater) (s : State),
    let r := s.heaterOut h
    let relay := (s.heater h).relay
    (disagrees s h = true ↔ (s.install h).installed = true ∧ r.check = .watching ∧
      (s.out.contactor = .closed ∧ s.pins.loadSense.get h ≠ relay ∧
          (relay = true ∨ r.welded = false) ∨
        s.out.contactor = .opened ∧ s.out.check = true ∧ s.pins.loadSense.get h = true)) ∧
    (∀ present : Bool,
      let v := s.withPins { s.pins with loadSense := s.pins.loadSense.set h present }
      exec (.loadSenseChange h present) s = .next
        (if disagrees v h then v else v.setHeaterOut h { r with run := 0 })) ∧
    (∀ k, r.check = .settling k → exec (.settlingEnd h) s =
      .next (s.setHeaterOut h { r with check := .watching, run := 0 })) ∧
    ((∀ k, r.check ≠ .settling k) → exec (.settlingEnd h) s = .next s) ∧
    (∀ also, disagrees s h = false → exec (.persistenceRunExpiry h also) s = .next s) ∧
    exec .contactorProvingExpiry s = .next (s.withOut { s.out with proving := none })

/-- R133, R68, R83, R84, R23: a heater commanded on that shows no voltage for 2,000 ms is FAILED: PFS
holds and drops it, its drive goes low, its notice is raised, and Z1, Z2 or GR is halted with cause
ELEMENT; an oven heater leaves the active set, and OV is halted when that empties the set by failure.
That only a RUNNING hob channel is halted, and that only the failed heater is handed, are the model's
readings (log 15, log 16). -/
def Obligations.OpenElementIsFailed : Prop :=
  ∀ (h : Heater) (also : List Heater) (s : State), PowerInv s → disagrees s h = true →
    s.out.contactor = .closed → (s.heater h).relay = true →
      let off := (s.setHeater h { s.heater h with
          hold := .failed, requested := 0, frame := 0, placed := noSlots, granted := 0
          relay := false }).setHeaterOut h
        { s.heaterOut h with drive := false, failed := true, check := .settling 200, run := 0 }
      let v := raise { kind := .heater, subject := heaterCode h, detail1 := 1, detail2 := 0 }
        (if feedsCoolingFan h then evalCoolingFan off else off)
      let becomes (t : State) : Prop := exec (.persistenceRunExpiry h also) s = .next t
      (∀ c, hobHeater c = some h →
        ((s.chan c).state = .running → becomes
          (raise { kind := .channelHalted, subject := channelCode c, detail1 := 1
                   detail2 := (s.chan c).stageIndex }
            (v.setChan c { halted (s.chan c) .element with level := 0 }))) ∧
        ((s.chan c).state ≠ .running → becomes v)) ∧
      ∀ o, asOvenHeater h = some o →
        let w := v.withOvr { v.ovr with handed := v.ovr.handed.set o 0 }
        let x := w.withOvr { w.ovr with
          active := activeSet w s.ovr.source s.ovr.mode, fanMark := rowFan s.ovr.source s.ovr.mode }
        let fails := failedSet w s.ovr.source s.ovr.mode ∧
          ((s.chan .ov).state = .running ∨ (s.chan .ov).state = .paused)
        (s.ovr.context ≠ .bake → becomes w) ∧
        (s.ovr.context = .bake → ¬ fails → becomes x) ∧
        (s.ovr.context = .bake → fails → becomes (sync .ov
          (raise { kind := .channelHalted, subject := 6, detail1 := 1
                   detail2 := (s.chan .ov).stageIndex }
            (x.setChan .ov (halted (x.chan .ov) .element)))))

/-- R135, R137, R68, R23: a heater commanded off that shows voltage for 2,000 ms is WELDED, with every
other whose run is full at the same moment: supply-off is set, every installed heater is held and dropped
and settles, the contactor opens and its check begins, each electric channel that is RUNNING, PAUSED or
READY is halted with cause SUPPLY, and the notices are raised in this order. The handed demands of a halted
OV become 0, its fan goes off and its lamp follows the door (R86, R95, R96, R98); the cooling fan follows the
commands (R97), and the rest of OVR stays. The gas side goes on. The second operand names the heaters of the
same moment (log 17). -/
def Obligations.WeldOpensTheContactor : Prop :=
  ∀ (h : Heater) (also : List Heater) (s : State), PowerInv s → disagrees s h = true →
    s.out.contactor = .closed → (s.heater h).relay = false →
      let further := allHeaters.filter (fun g =>
        also.contains g && decide (g ≠ h) && disagrees s g && !(s.heater g).relay)
      let reached (c : Channel) : Bool :=
        isElectric c && (decide ((s.chan c).state = .running) ||
          decide ((s.chan c).state = .paused) || decide ((s.chan c).state = .ready))
      let notices : List Notice :=
        [{ kind := .heater, subject := heaterCode h, detail1 := 2, detail2 := 0 }] ++
          further.map (fun g =>
            { kind := .heater, subject := heaterCode g, detail1 := 2, detail2 := 1 }) ++
          [{ kind := .supplyOff, subject := 0xFF, detail1 := 0, detail2 := 0 }] ++
          ([Channel.z1, .z2, .ov, .gr].filter reached).map (fun c =>
            { kind := .channelHalted, subject := channelCode c, detail1 := 2
              detail2 := (s.chan c).stageIndex })
      ∃ t : State, exec (.persistenceRunExpiry h also) s = .next t ∧
        t.out = { s.out with
          supplyOff := true, contactor := .opened, check := true, proving := some 2200
          heaters := t.out.heaters } ∧
        (∀ g : Heater, (s.install g).installed = true →
          let r := s.heater g
          t.heater g = { r with
            hold := if r.hold = .none then .supplyOff else r.hold
            requested := if r.hold = .none then 0 else r.requested
            frame := 0, placed := noSlots
            granted := if 0 < r.frame then 0 else r.granted
            relay := false } ∧
          t.heaterOut g = { s.heaterOut g with
            drive := !r.relay && (s.heaterOut g).drive
            check := .settling 200, run := 0
            welded := (s.heaterOut g).welded || decide (g = h) || further.contains g }) ∧
        (∀ g : Heater, (s.install g).installed = false → t.heaterOut g = s.heaterOut g ∧
          ((∀ c, hobHeater c = some g → (s.chan c).level = 0) → t.heater g = s.heater g)) ∧
        (∀ c : Channel, t.chan c =
          if reached c then
            { halted (s.chan c) .supply with
              level := if (hobHeater c).isSome then 0 else (s.chan c).level }
          else s.chan c) ∧
        t.ovr = { s.ovr with
          handed := t.ovr.handed, coolingFan := t.ovr.coolingFan, fanJustOff := t.ovr.fanJustOff
          ovenFan := if reached .ov then false else s.ovr.ovenFan
          lamp := if reached .ov then decide (s.ovr.doorState = .opened) else s.ovr.lamp } ∧
        (∀ g : OvenHeater, t.ovr.handed.get g =
          if reached .ov ∧ (s.install (ovenHeaterAsHeater g)).installed then 0
          else s.ovr.handed.get g) ∧
        coolingFollows s t ∧
        t.ntq = (notices.foldl (fun u n => raise n u) s).ntq ∧
        (s.ntq.frozen = false → s.ntq.queue.length + notices.length ≤ 16 →
          t.ntq.queue = s.ntq.queue ++ notices) ∧
        t.pfs = { s.pfs with heaters := t.pfs.heaters } ∧
        t = { s with
          plr := { s.plr with chans := t.plr.chans }, pfs := t.pfs, ovr := t.ovr, out := t.out
          ntq := t.ntq }

/-- R138, R139, R72, R98, R125, R153, R169: a heater that shows voltage for 2,000 ms with the contactor
OPEN and its check ON locks the part: every drive, fan, lamp, valve and the spark go off, every timer
stops, the burners go to OFF or WAIT-CLOSE by their knobs, and the notices are frozen; the rest stays. That a
running door debounce becomes idle is the model's choice (log 37). -/
def Obligations.LiveContactorLocksThePart : Prop :=
  ∀ (h : Heater) (also : List Heater) (s : State), disagrees s h = true →
    s.out.contactor = .opened →
      exec (.persistenceRunExpiry h also) s = .next { s with
        out := { s.out with
          heaters := s.out.heaters.map (fun _ r =>
            { r with drive := false, check := .idle, run := 0 })
          contactor := .opened, check := false, proving := none, locked := true }
        cfg := { s.cfg with part := .locked }
        pfs := { s.pfs with
          sched := .stopped, capacity := Vector.replicate 32 0, slotTimer := none
          heaters := s.pfs.heaters.map (fun _ r => { r with relay := false }) }
        ovr := { s.ovr with
          ovenFan := false, lamp := false, coolingFan := false, probeTimer := none
          doorDebounce := none }
        bsv :=
          { burners := s.bsv.burners.map (fun _ b =>
              { atRest b (if b.knob = .closed then .off else .waitClose) with
                debounce := none, attempts := 0, losses := 0 })
            queue := [], owner := none, rest := none, hold := .closed }
        plr := { s.plr with chans := s.plr.chans.map (fun _ r =>
          { r with secondTimer := none, pauseTimer := none }) }
        pst := { s.pst with load := s.pst.load.map (fun l => { l with idle := none }) }
        ntq := { s.ntq with frozen := true, spacing := none }
        lnk := { s.lnk with supervision := none } }

/-! ## What every step keeps -/

/-- R6, R8: every one of the 40 records stays free or in one plan, through every step. -/
def Obligations.PoolIsConserved : Prop :=
  ∀ s t : State, PoolInv s → step s = .next t → PoolInv t

/-- R43: no remaining time comes to exceed the duration of its stage, and no duration 86,399 s. -/
def Obligations.TimesStayWithinDurations : Prop :=
  ∀ s t : State, TimeInv s → step s = .next t → TimeInv t

/-- R145, R150: the notice queue stays within 16 and ATTN is asserted only while it holds a notice.
R78, R81: the probe's buffer and error counter stay in range. -/
def Obligations.QueueAndProbeStayInRange : Prop :=
  ∀ s t : State, step s = .next t → (NoticeInv s → NoticeInv t) ∧ (ProbeInv s → ProbeInv t)

/-- R103, R106, R108: a burner is OFF exactly while its knob is closed, the queue holds each QUEUED
burner once, and the generator's owner is the one IGNITING burner. -/
def Obligations.BurnersKeepTheirOrder : Prop :=
  ∀ s t : State, BurnerInv s → step s = .next t → BurnerInv t

/-- R60, R70: the placements of every slot stay within the budget, and a relay is commanded on only for a
placed heater, through every step. -/
def Obligations.PowerStaysWithinTheBudget : Prop :=
  ∀ s t : State, PowerInv s → step s = .next t → PowerInv t

/-- R139, R140: while the part is LOCKED every output stays off and every timer stopped, and only a
power-on reset leaves LOCKED. -/
def Obligations.LockedIsKeptUntilPowerOn : Prop :=
  ∀ s t : State, LockedInv s → step s = .next t →
    LockedInv t ∧
    (s.cfg.part = .locked → (∀ p rest, s.pending ≠ Instr.powerOnReset p :: rest) →
      t.cfg.part = .locked)

/-- The invariants hold after a reset, whatever the knobs, the door and the straps show. -/
def Obligations.InvariantsHoldAfterAReset : Prop :=
  ∀ (cause : ResetCause) (p : Pins) (drawn : Nat) (pending : List Instr),
    let s := afterReset cause p drawn pending
    PoolInv s ∧ TimeInv s ∧ NoticeInv s ∧ ProbeInv s ∧ BurnerInv s ∧ PowerInv s ∧ LockedInv s

/-- R60, R70: the relays that are commanded on together never draw more than the budget, and each is on
only while the part is OPERATING, the contactor closed, the supply-off flag clear and its heater
installed and not FAILED. A valve is open only while its knob is open (R102). -/
def Obligations.RelaysAndValvesObeyTheirLaws : Prop :=
  ∀ s : State,
    (PowerInv s → relayLoad s ≤ s.cfg.budget.getD 0 ∧
      ∀ h : Heater, (s.heater h).relay = true →
        s.cfg.part = .operating ∧ s.out.contactor = .closed ∧ s.out.supplyOff = false ∧
          (s.install h).installed = true ∧ (s.heaterOut h).failed = false) ∧
    (BurnerInv s →
      (∀ n : Burner, valve s n = true → (s.burner n).knob = .opened) ∧
      (∀ n : Burner, sparkEnable s = true → sparkSelect s = burnerNumber n - 1 →
        (s.burner n).state = .igniting))

/-- Tables 8-11 and 1-5: the characters of a stage record that fits a channel have the length of its
kind, pass every check for that channel, and spell that record again, with no field dropped. -/
def Obligations.StageRecordsRoundTrip : Prop :=
  ∀ (p : StageSpec) (c : Channel), stageFits p c →
    recordOf (recordChars p) = p ∧ recordProblem (recordChars p) c = none ∧
      recordLength (stageKindCode p.kind) = some (recordChars p).length ∧
      (recordChars p).headD 0 = byteOf (stageKindCode p.kind)

end Statements
end

