-- ==== Sys2Proof/Laws/State.lean ====
section
/-! SUPPORT. One lemma for each field and each update of State, true by rfl, and the laws of the
families of like things. -/

namespace Sys2Proof.Machine

open Sys2Proof

/-! ## The families -/

@[simp] theorem PerChannel.get_set_self {α : Type} (f : PerChannel α) (c : Channel) (x : α) :
    (f.set c x).get c = x := by cases c <;> rfl

theorem PerChannel.get_set_of_ne {α : Type} (f : PerChannel α) {c d : Channel} (x : α) (hd : d ≠ c) :
    (f.set c x).get d = f.get d := by cases c <;> cases d <;> first | rfl | exact absurd rfl hd

theorem PerChannel.get_set {α : Type} (f : PerChannel α) (c d : Channel) (x : α) :
    (f.set c x).get d = if d = c then x else f.get d := by cases c <;> cases d <;> rfl

@[simp] theorem PerChannel.get_const {α : Type} (x : α) (c : Channel) :
    (PerChannel.const x).get c = x := by cases c <;> rfl

theorem PerChannel.ext_get {α : Type} {f g : PerChannel α} (hfg : ∀ c : Channel, f.get c = g.get c) : f = g := by
  cases f; cases g
  simp only [PerChannel.mk.injEq]
  exact ⟨hfg .b1, hfg .b2, hfg .b3, hfg .b4, hfg .z1, hfg .z2, hfg .ov, hfg .gr⟩

@[simp] theorem PerChannel.set_get_self {α : Type} (f : PerChannel α) (c : Channel) : f.set c (f.get c) = f := by
  cases c <;> rfl

@[simp] theorem PerChannel.set_set {α : Type} (f : PerChannel α) (c : Channel) (x y : α) :
    (f.set c x).set c y = f.set c y := by cases c <;> rfl

@[simp] theorem PerChannel.get_map {α β : Type} (f : PerChannel α) (g : Channel → α → β) (c : Channel) :
    (f.map g).get c = g c (f.get c) := by cases c <;> rfl

@[simp] theorem PerHeater.get_set_self {α : Type} (f : PerHeater α) (h : Heater) (x : α) :
    (f.set h x).get h = x := by cases h <;> rfl

theorem PerHeater.get_set_of_ne {α : Type} (f : PerHeater α) {h d : Heater} (x : α) (hd : d ≠ h) :
    (f.set h x).get d = f.get d := by cases h <;> cases d <;> first | rfl | exact absurd rfl hd

theorem PerHeater.get_set {α : Type} (f : PerHeater α) (h d : Heater) (x : α) :
    (f.set h x).get d = if d = h then x else f.get d := by cases h <;> cases d <;> rfl

@[simp] theorem PerHeater.get_const {α : Type} (x : α) (h : Heater) :
    (PerHeater.const x).get h = x := by cases h <;> rfl

theorem PerHeater.ext_get {α : Type} {f g : PerHeater α} (hfg : ∀ h : Heater, f.get h = g.get h) : f = g := by
  cases f; cases g
  simp only [PerHeater.mk.injEq]
  exact ⟨hfg .hz1, hfg .hz2, hfg .htop, hfg .hbase, hfg .hring, hfg .hgrill⟩

@[simp] theorem PerHeater.set_get_self {α : Type} (f : PerHeater α) (h : Heater) : f.set h (f.get h) = f := by
  cases h <;> rfl

@[simp] theorem PerHeater.set_set {α : Type} (f : PerHeater α) (h : Heater) (x y : α) :
    (f.set h x).set h y = f.set h y := by cases h <;> rfl

@[simp] theorem PerHeater.get_map {α β : Type} (f : PerHeater α) (g : Heater → α → β) (h : Heater) :
    (f.map g).get h = g h (f.get h) := by cases h <;> rfl

@[simp] theorem PerBurner.get_set_self {α : Type} (f : PerBurner α) (n : Burner) (x : α) :
    (f.set n x).get n = x := by cases n <;> rfl

theorem PerBurner.get_set_of_ne {α : Type} (f : PerBurner α) {n d : Burner} (x : α) (hd : d ≠ n) :
    (f.set n x).get d = f.get d := by cases n <;> cases d <;> first | rfl | exact absurd rfl hd

theorem PerBurner.get_set {α : Type} (f : PerBurner α) (n d : Burner) (x : α) :
    (f.set n x).get d = if d = n then x else f.get d := by cases n <;> cases d <;> rfl

@[simp] theorem PerBurner.get_const {α : Type} (x : α) (n : Burner) :
    (PerBurner.const x).get n = x := by cases n <;> rfl

theorem PerBurner.ext_get {α : Type} {f g : PerBurner α} (hfg : ∀ n : Burner, f.get n = g.get n) : f = g := by
  cases f; cases g
  simp only [PerBurner.mk.injEq]
  exact ⟨hfg .n1, hfg .n2, hfg .n3, hfg .n4⟩

@[simp] theorem PerBurner.set_get_self {α : Type} (f : PerBurner α) (n : Burner) : f.set n (f.get n) = f := by
  cases n <;> rfl

@[simp] theorem PerBurner.set_set {α : Type} (f : PerBurner α) (n : Burner) (x y : α) :
    (f.set n x).set n y = f.set n y := by cases n <;> rfl

@[simp] theorem PerBurner.get_map {α β : Type} (f : PerBurner α) (g : Burner → α → β) (n : Burner) :
    (f.map g).get n = g n (f.get n) := by cases n <;> rfl

@[simp] theorem PerOven.get_set_self {α : Type} (f : PerOven α) (h : OvenHeater) (x : α) :
    (f.set h x).get h = x := by cases h <;> rfl

theorem PerOven.get_set_of_ne {α : Type} (f : PerOven α) {h d : OvenHeater} (x : α) (hd : d ≠ h) :
    (f.set h x).get d = f.get d := by cases h <;> cases d <;> first | rfl | exact absurd rfl hd

theorem PerOven.get_set {α : Type} (f : PerOven α) (h d : OvenHeater) (x : α) :
    (f.set h x).get d = if d = h then x else f.get d := by cases h <;> cases d <;> rfl

@[simp] theorem PerOven.get_const {α : Type} (x : α) (h : OvenHeater) :
    (PerOven.const x).get h = x := by cases h <;> rfl

theorem PerOven.ext_get {α : Type} {f g : PerOven α} (hfg : ∀ h : OvenHeater, f.get h = g.get h) : f = g := by
  cases f; cases g
  simp only [PerOven.mk.injEq]
  exact ⟨hfg .top, hfg .base, hfg .ring⟩

@[simp] theorem PerOven.set_get_self {α : Type} (f : PerOven α) (h : OvenHeater) : f.set h (f.get h) = f := by
  cases h <;> rfl

@[simp] theorem PerOven.set_set {α : Type} (f : PerOven α) (h : OvenHeater) (x y : α) :
    (f.set h x).set h y = f.set h y := by cases h <;> rfl

/-! ## The blocks -/

@[simp] theorem State.withPins_pins (s : State) (x : Pins) : (s.withPins x).pins = x := rfl
@[simp] theorem State.withPins_lnk (s : State) (x : Pins) : (s.withPins x).lnk = s.lnk := rfl
@[simp] theorem State.withPins_cfg (s : State) (x : Pins) : (s.withPins x).cfg = s.cfg := rfl
@[simp] theorem State.withPins_pst (s : State) (x : Pins) : (s.withPins x).pst = s.pst := rfl
@[simp] theorem State.withPins_plr (s : State) (x : Pins) : (s.withPins x).plr = s.plr := rfl
@[simp] theorem State.withPins_pfs (s : State) (x : Pins) : (s.withPins x).pfs = s.pfs := rfl
@[simp] theorem State.withPins_ovr (s : State) (x : Pins) : (s.withPins x).ovr = s.ovr := rfl
@[simp] theorem State.withPins_bsv (s : State) (x : Pins) : (s.withPins x).bsv = s.bsv := rfl
@[simp] theorem State.withPins_out (s : State) (x : Pins) : (s.withPins x).out = s.out := rfl
@[simp] theorem State.withPins_ntq (s : State) (x : Pins) : (s.withPins x).ntq = s.ntq := rfl
@[simp] theorem State.withPins_drawn (s : State) (x : Pins) : (s.withPins x).drawn = s.drawn := rfl
@[simp] theorem State.withPins_pending (s : State) (x : Pins) : (s.withPins x).pending = s.pending := rfl
@[simp] theorem State.withPins_self (s : State) : s.withPins s.pins = s := rfl
@[simp] theorem State.withPins_withPins (s : State) (x y : Pins) : (s.withPins x).withPins y = s.withPins y := rfl

@[simp] theorem State.withLnk_pins (s : State) (x : Lnk) : (s.withLnk x).pins = s.pins := rfl
@[simp] theorem State.withLnk_lnk (s : State) (x : Lnk) : (s.withLnk x).lnk = x := rfl
@[simp] theorem State.withLnk_cfg (s : State) (x : Lnk) : (s.withLnk x).cfg = s.cfg := rfl
@[simp] theorem State.withLnk_pst (s : State) (x : Lnk) : (s.withLnk x).pst = s.pst := rfl
@[simp] theorem State.withLnk_plr (s : State) (x : Lnk) : (s.withLnk x).plr = s.plr := rfl
@[simp] theorem State.withLnk_pfs (s : State) (x : Lnk) : (s.withLnk x).pfs = s.pfs := rfl
@[simp] theorem State.withLnk_ovr (s : State) (x : Lnk) : (s.withLnk x).ovr = s.ovr := rfl
@[simp] theorem State.withLnk_bsv (s : State) (x : Lnk) : (s.withLnk x).bsv = s.bsv := rfl
@[simp] theorem State.withLnk_out (s : State) (x : Lnk) : (s.withLnk x).out = s.out := rfl
@[simp] theorem State.withLnk_ntq (s : State) (x : Lnk) : (s.withLnk x).ntq = s.ntq := rfl
@[simp] theorem State.withLnk_drawn (s : State) (x : Lnk) : (s.withLnk x).drawn = s.drawn := rfl
@[simp] theorem State.withLnk_pending (s : State) (x : Lnk) : (s.withLnk x).pending = s.pending := rfl
@[simp] theorem State.withLnk_self (s : State) : s.withLnk s.lnk = s := rfl
@[simp] theorem State.withLnk_withLnk (s : State) (x y : Lnk) : (s.withLnk x).withLnk y = s.withLnk y := rfl

@[simp] theorem State.withCfg_pins (s : State) (x : Cfg) : (s.withCfg x).pins = s.pins := rfl
@[simp] theorem State.withCfg_lnk (s : State) (x : Cfg) : (s.withCfg x).lnk = s.lnk := rfl
@[simp] theorem State.withCfg_cfg (s : State) (x : Cfg) : (s.withCfg x).cfg = x := rfl
@[simp] theorem State.withCfg_pst (s : State) (x : Cfg) : (s.withCfg x).pst = s.pst := rfl
@[simp] theorem State.withCfg_plr (s : State) (x : Cfg) : (s.withCfg x).plr = s.plr := rfl
@[simp] theorem State.withCfg_pfs (s : State) (x : Cfg) : (s.withCfg x).pfs = s.pfs := rfl
@[simp] theorem State.withCfg_ovr (s : State) (x : Cfg) : (s.withCfg x).ovr = s.ovr := rfl
@[simp] theorem State.withCfg_bsv (s : State) (x : Cfg) : (s.withCfg x).bsv = s.bsv := rfl
@[simp] theorem State.withCfg_out (s : State) (x : Cfg) : (s.withCfg x).out = s.out := rfl
@[simp] theorem State.withCfg_ntq (s : State) (x : Cfg) : (s.withCfg x).ntq = s.ntq := rfl
@[simp] theorem State.withCfg_drawn (s : State) (x : Cfg) : (s.withCfg x).drawn = s.drawn := rfl
@[simp] theorem State.withCfg_pending (s : State) (x : Cfg) : (s.withCfg x).pending = s.pending := rfl
@[simp] theorem State.withCfg_self (s : State) : s.withCfg s.cfg = s := rfl
@[simp] theorem State.withCfg_withCfg (s : State) (x y : Cfg) : (s.withCfg x).withCfg y = s.withCfg y := rfl

@[simp] theorem State.withPst_pins (s : State) (x : Pst) : (s.withPst x).pins = s.pins := rfl
@[simp] theorem State.withPst_lnk (s : State) (x : Pst) : (s.withPst x).lnk = s.lnk := rfl
@[simp] theorem State.withPst_cfg (s : State) (x : Pst) : (s.withPst x).cfg = s.cfg := rfl
@[simp] theorem State.withPst_pst (s : State) (x : Pst) : (s.withPst x).pst = x := rfl
@[simp] theorem State.withPst_plr (s : State) (x : Pst) : (s.withPst x).plr = s.plr := rfl
@[simp] theorem State.withPst_pfs (s : State) (x : Pst) : (s.withPst x).pfs = s.pfs := rfl
@[simp] theorem State.withPst_ovr (s : State) (x : Pst) : (s.withPst x).ovr = s.ovr := rfl
@[simp] theorem State.withPst_bsv (s : State) (x : Pst) : (s.withPst x).bsv = s.bsv := rfl
@[simp] theorem State.withPst_out (s : State) (x : Pst) : (s.withPst x).out = s.out := rfl
@[simp] theorem State.withPst_ntq (s : State) (x : Pst) : (s.withPst x).ntq = s.ntq := rfl
@[simp] theorem State.withPst_drawn (s : State) (x : Pst) : (s.withPst x).drawn = s.drawn := rfl
@[simp] theorem State.withPst_pending (s : State) (x : Pst) : (s.withPst x).pending = s.pending := rfl
@[simp] theorem State.withPst_self (s : State) : s.withPst s.pst = s := rfl
@[simp] theorem State.withPst_withPst (s : State) (x y : Pst) : (s.withPst x).withPst y = s.withPst y := rfl

@[simp] theorem State.withPlr_pins (s : State) (x : Plr) : (s.withPlr x).pins = s.pins := rfl
@[simp] theorem State.withPlr_lnk (s : State) (x : Plr) : (s.withPlr x).lnk = s.lnk := rfl
@[simp] theorem State.withPlr_cfg (s : State) (x : Plr) : (s.withPlr x).cfg = s.cfg := rfl
@[simp] theorem State.withPlr_pst (s : State) (x : Plr) : (s.withPlr x).pst = s.pst := rfl
@[simp] theorem State.withPlr_plr (s : State) (x : Plr) : (s.withPlr x).plr = x := rfl
@[simp] theorem State.withPlr_pfs (s : State) (x : Plr) : (s.withPlr x).pfs = s.pfs := rfl
@[simp] theorem State.withPlr_ovr (s : State) (x : Plr) : (s.withPlr x).ovr = s.ovr := rfl
@[simp] theorem State.withPlr_bsv (s : State) (x : Plr) : (s.withPlr x).bsv = s.bsv := rfl
@[simp] theorem State.withPlr_out (s : State) (x : Plr) : (s.withPlr x).out = s.out := rfl
@[simp] theorem State.withPlr_ntq (s : State) (x : Plr) : (s.withPlr x).ntq = s.ntq := rfl
@[simp] theorem State.withPlr_drawn (s : State) (x : Plr) : (s.withPlr x).drawn = s.drawn := rfl
@[simp] theorem State.withPlr_pending (s : State) (x : Plr) : (s.withPlr x).pending = s.pending := rfl
@[simp] theorem State.withPlr_self (s : State) : s.withPlr s.plr = s := rfl
@[simp] theorem State.withPlr_withPlr (s : State) (x y : Plr) : (s.withPlr x).withPlr y = s.withPlr y := rfl

@[simp] theorem State.withPfs_pins (s : State) (x : Pfs) : (s.withPfs x).pins = s.pins := rfl
@[simp] theorem State.withPfs_lnk (s : State) (x : Pfs) : (s.withPfs x).lnk = s.lnk := rfl
@[simp] theorem State.withPfs_cfg (s : State) (x : Pfs) : (s.withPfs x).cfg = s.cfg := rfl
@[simp] theorem State.withPfs_pst (s : State) (x : Pfs) : (s.withPfs x).pst = s.pst := rfl
@[simp] theorem State.withPfs_plr (s : State) (x : Pfs) : (s.withPfs x).plr = s.plr := rfl
@[simp] theorem State.withPfs_pfs (s : State) (x : Pfs) : (s.withPfs x).pfs = x := rfl
@[simp] theorem State.withPfs_ovr (s : State) (x : Pfs) : (s.withPfs x).ovr = s.ovr := rfl
@[simp] theorem State.withPfs_bsv (s : State) (x : Pfs) : (s.withPfs x).bsv = s.bsv := rfl
@[simp] theorem State.withPfs_out (s : State) (x : Pfs) : (s.withPfs x).out = s.out := rfl
@[simp] theorem State.withPfs_ntq (s : State) (x : Pfs) : (s.withPfs x).ntq = s.ntq := rfl
@[simp] theorem State.withPfs_drawn (s : State) (x : Pfs) : (s.withPfs x).drawn = s.drawn := rfl
@[simp] theorem State.withPfs_pending (s : State) (x : Pfs) : (s.withPfs x).pending = s.pending := rfl
@[simp] theorem State.withPfs_self (s : State) : s.withPfs s.pfs = s := rfl
@[simp] theorem State.withPfs_withPfs (s : State) (x y : Pfs) : (s.withPfs x).withPfs y = s.withPfs y := rfl

@[simp] theorem State.withOvr_pins (s : State) (x : Ovr) : (s.withOvr x).pins = s.pins := rfl
@[simp] theorem State.withOvr_lnk (s : State) (x : Ovr) : (s.withOvr x).lnk = s.lnk := rfl
@[simp] theorem State.withOvr_cfg (s : State) (x : Ovr) : (s.withOvr x).cfg = s.cfg := rfl
@[simp] theorem State.withOvr_pst (s : State) (x : Ovr) : (s.withOvr x).pst = s.pst := rfl
@[simp] theorem State.withOvr_plr (s : State) (x : Ovr) : (s.withOvr x).plr = s.plr := rfl
@[simp] theorem State.withOvr_pfs (s : State) (x : Ovr) : (s.withOvr x).pfs = s.pfs := rfl
@[simp] theorem State.withOvr_ovr (s : State) (x : Ovr) : (s.withOvr x).ovr = x := rfl
@[simp] theorem State.withOvr_bsv (s : State) (x : Ovr) : (s.withOvr x).bsv = s.bsv := rfl
@[simp] theorem State.withOvr_out (s : State) (x : Ovr) : (s.withOvr x).out = s.out := rfl
@[simp] theorem State.withOvr_ntq (s : State) (x : Ovr) : (s.withOvr x).ntq = s.ntq := rfl
@[simp] theorem State.withOvr_drawn (s : State) (x : Ovr) : (s.withOvr x).drawn = s.drawn := rfl
@[simp] theorem State.withOvr_pending (s : State) (x : Ovr) : (s.withOvr x).pending = s.pending := rfl
@[simp] theorem State.withOvr_self (s : State) : s.withOvr s.ovr = s := rfl
@[simp] theorem State.withOvr_withOvr (s : State) (x y : Ovr) : (s.withOvr x).withOvr y = s.withOvr y := rfl

@[simp] theorem State.withBsv_pins (s : State) (x : Bsv) : (s.withBsv x).pins = s.pins := rfl
@[simp] theorem State.withBsv_lnk (s : State) (x : Bsv) : (s.withBsv x).lnk = s.lnk := rfl
@[simp] theorem State.withBsv_cfg (s : State) (x : Bsv) : (s.withBsv x).cfg = s.cfg := rfl
@[simp] theorem State.withBsv_pst (s : State) (x : Bsv) : (s.withBsv x).pst = s.pst := rfl
@[simp] theorem State.withBsv_plr (s : State) (x : Bsv) : (s.withBsv x).plr = s.plr := rfl
@[simp] theorem State.withBsv_pfs (s : State) (x : Bsv) : (s.withBsv x).pfs = s.pfs := rfl
@[simp] theorem State.withBsv_ovr (s : State) (x : Bsv) : (s.withBsv x).ovr = s.ovr := rfl
@[simp] theorem State.withBsv_bsv (s : State) (x : Bsv) : (s.withBsv x).bsv = x := rfl
@[simp] theorem State.withBsv_out (s : State) (x : Bsv) : (s.withBsv x).out = s.out := rfl
@[simp] theorem State.withBsv_ntq (s : State) (x : Bsv) : (s.withBsv x).ntq = s.ntq := rfl
@[simp] theorem State.withBsv_drawn (s : State) (x : Bsv) : (s.withBsv x).drawn = s.drawn := rfl
@[simp] theorem State.withBsv_pending (s : State) (x : Bsv) : (s.withBsv x).pending = s.pending := rfl
@[simp] theorem State.withBsv_self (s : State) : s.withBsv s.bsv = s := rfl
@[simp] theorem State.withBsv_withBsv (s : State) (x y : Bsv) : (s.withBsv x).withBsv y = s.withBsv y := rfl

@[simp] theorem State.withOut_pins (s : State) (x : OutStage) : (s.withOut x).pins = s.pins := rfl
@[simp] theorem State.withOut_lnk (s : State) (x : OutStage) : (s.withOut x).lnk = s.lnk := rfl
@[simp] theorem State.withOut_cfg (s : State) (x : OutStage) : (s.withOut x).cfg = s.cfg := rfl
@[simp] theorem State.withOut_pst (s : State) (x : OutStage) : (s.withOut x).pst = s.pst := rfl
@[simp] theorem State.withOut_plr (s : State) (x : OutStage) : (s.withOut x).plr = s.plr := rfl
@[simp] theorem State.withOut_pfs (s : State) (x : OutStage) : (s.withOut x).pfs = s.pfs := rfl
@[simp] theorem State.withOut_ovr (s : State) (x : OutStage) : (s.withOut x).ovr = s.ovr := rfl
@[simp] theorem State.withOut_bsv (s : State) (x : OutStage) : (s.withOut x).bsv = s.bsv := rfl
@[simp] theorem State.withOut_out (s : State) (x : OutStage) : (s.withOut x).out = x := rfl
@[simp] theorem State.withOut_ntq (s : State) (x : OutStage) : (s.withOut x).ntq = s.ntq := rfl
@[simp] theorem State.withOut_drawn (s : State) (x : OutStage) : (s.withOut x).drawn = s.drawn := rfl
@[simp] theorem State.withOut_pending (s : State) (x : OutStage) : (s.withOut x).pending = s.pending := rfl
@[simp] theorem State.withOut_self (s : State) : s.withOut s.out = s := rfl
@[simp] theorem State.withOut_withOut (s : State) (x y : OutStage) : (s.withOut x).withOut y = s.withOut y := rfl

@[simp] theorem State.withNtq_pins (s : State) (x : Ntq) : (s.withNtq x).pins = s.pins := rfl
@[simp] theorem State.withNtq_lnk (s : State) (x : Ntq) : (s.withNtq x).lnk = s.lnk := rfl
@[simp] theorem State.withNtq_cfg (s : State) (x : Ntq) : (s.withNtq x).cfg = s.cfg := rfl
@[simp] theorem State.withNtq_pst (s : State) (x : Ntq) : (s.withNtq x).pst = s.pst := rfl
@[simp] theorem State.withNtq_plr (s : State) (x : Ntq) : (s.withNtq x).plr = s.plr := rfl
@[simp] theorem State.withNtq_pfs (s : State) (x : Ntq) : (s.withNtq x).pfs = s.pfs := rfl
@[simp] theorem State.withNtq_ovr (s : State) (x : Ntq) : (s.withNtq x).ovr = s.ovr := rfl
@[simp] theorem State.withNtq_bsv (s : State) (x : Ntq) : (s.withNtq x).bsv = s.bsv := rfl
@[simp] theorem State.withNtq_out (s : State) (x : Ntq) : (s.withNtq x).out = s.out := rfl
@[simp] theorem State.withNtq_ntq (s : State) (x : Ntq) : (s.withNtq x).ntq = x := rfl
@[simp] theorem State.withNtq_drawn (s : State) (x : Ntq) : (s.withNtq x).drawn = s.drawn := rfl
@[simp] theorem State.withNtq_pending (s : State) (x : Ntq) : (s.withNtq x).pending = s.pending := rfl
@[simp] theorem State.withNtq_self (s : State) : s.withNtq s.ntq = s := rfl
@[simp] theorem State.withNtq_withNtq (s : State) (x y : Ntq) : (s.withNtq x).withNtq y = s.withNtq y := rfl

@[simp] theorem State.withDrawn_pins (s : State) (x : Nat) : (s.withDrawn x).pins = s.pins := rfl
@[simp] theorem State.withDrawn_lnk (s : State) (x : Nat) : (s.withDrawn x).lnk = s.lnk := rfl
@[simp] theorem State.withDrawn_cfg (s : State) (x : Nat) : (s.withDrawn x).cfg = s.cfg := rfl
@[simp] theorem State.withDrawn_pst (s : State) (x : Nat) : (s.withDrawn x).pst = s.pst := rfl
@[simp] theorem State.withDrawn_plr (s : State) (x : Nat) : (s.withDrawn x).plr = s.plr := rfl
@[simp] theorem State.withDrawn_pfs (s : State) (x : Nat) : (s.withDrawn x).pfs = s.pfs := rfl
@[simp] theorem State.withDrawn_ovr (s : State) (x : Nat) : (s.withDrawn x).ovr = s.ovr := rfl
@[simp] theorem State.withDrawn_bsv (s : State) (x : Nat) : (s.withDrawn x).bsv = s.bsv := rfl
@[simp] theorem State.withDrawn_out (s : State) (x : Nat) : (s.withDrawn x).out = s.out := rfl
@[simp] theorem State.withDrawn_ntq (s : State) (x : Nat) : (s.withDrawn x).ntq = s.ntq := rfl
@[simp] theorem State.withDrawn_drawn (s : State) (x : Nat) : (s.withDrawn x).drawn = x := rfl
@[simp] theorem State.withDrawn_pending (s : State) (x : Nat) : (s.withDrawn x).pending = s.pending := rfl
@[simp] theorem State.withDrawn_self (s : State) : s.withDrawn s.drawn = s := rfl
@[simp] theorem State.withDrawn_withDrawn (s : State) (x y : Nat) : (s.withDrawn x).withDrawn y = s.withDrawn y := rfl

@[simp] theorem State.withPending_pins (s : State) (x : List Instr) : (s.withPending x).pins = s.pins := rfl
@[simp] theorem State.withPending_lnk (s : State) (x : List Instr) : (s.withPending x).lnk = s.lnk := rfl
@[simp] theorem State.withPending_cfg (s : State) (x : List Instr) : (s.withPending x).cfg = s.cfg := rfl
@[simp] theorem State.withPending_pst (s : State) (x : List Instr) : (s.withPending x).pst = s.pst := rfl
@[simp] theorem State.withPending_plr (s : State) (x : List Instr) : (s.withPending x).plr = s.plr := rfl
@[simp] theorem State.withPending_pfs (s : State) (x : List Instr) : (s.withPending x).pfs = s.pfs := rfl
@[simp] theorem State.withPending_ovr (s : State) (x : List Instr) : (s.withPending x).ovr = s.ovr := rfl
@[simp] theorem State.withPending_bsv (s : State) (x : List Instr) : (s.withPending x).bsv = s.bsv := rfl
@[simp] theorem State.withPending_out (s : State) (x : List Instr) : (s.withPending x).out = s.out := rfl
@[simp] theorem State.withPending_ntq (s : State) (x : List Instr) : (s.withPending x).ntq = s.ntq := rfl
@[simp] theorem State.withPending_drawn (s : State) (x : List Instr) : (s.withPending x).drawn = s.drawn := rfl
@[simp] theorem State.withPending_pending (s : State) (x : List Instr) : (s.withPending x).pending = x := rfl
@[simp] theorem State.withPending_self (s : State) : s.withPending s.pending = s := rfl
@[simp] theorem State.withPending_withPending (s : State) (x y : List Instr) : (s.withPending x).withPending y = s.withPending y := rfl

/-! ## Records read through an update of a block -/

@[simp] theorem State.withPins_chan (s : State) (x : Pins) (c : Channel) :
    (s.withPins x).chan c = s.chan c := rfl
@[simp] theorem State.withPins_heater (s : State) (x : Pins) (h : Heater) :
    (s.withPins x).heater h = s.heater h := rfl
@[simp] theorem State.withPins_heaterOut (s : State) (x : Pins) (h : Heater) :
    (s.withPins x).heaterOut h = s.heaterOut h := rfl
@[simp] theorem State.withPins_burner (s : State) (x : Pins) (n : Burner) :
    (s.withPins x).burner n = s.burner n := rfl
@[simp] theorem State.withPins_install (s : State) (x : Pins) (h : Heater) :
    (s.withPins x).install h = s.install h := rfl
@[simp] theorem State.withLnk_chan (s : State) (x : Lnk) (c : Channel) :
    (s.withLnk x).chan c = s.chan c := rfl
@[simp] theorem State.withLnk_heater (s : State) (x : Lnk) (h : Heater) :
    (s.withLnk x).heater h = s.heater h := rfl
@[simp] theorem State.withLnk_heaterOut (s : State) (x : Lnk) (h : Heater) :
    (s.withLnk x).heaterOut h = s.heaterOut h := rfl
@[simp] theorem State.withLnk_burner (s : State) (x : Lnk) (n : Burner) :
    (s.withLnk x).burner n = s.burner n := rfl
@[simp] theorem State.withLnk_install (s : State) (x : Lnk) (h : Heater) :
    (s.withLnk x).install h = s.install h := rfl
@[simp] theorem State.withCfg_chan (s : State) (x : Cfg) (c : Channel) :
    (s.withCfg x).chan c = s.chan c := rfl
@[simp] theorem State.withCfg_heater (s : State) (x : Cfg) (h : Heater) :
    (s.withCfg x).heater h = s.heater h := rfl
@[simp] theorem State.withCfg_heaterOut (s : State) (x : Cfg) (h : Heater) :
    (s.withCfg x).heaterOut h = s.heaterOut h := rfl
@[simp] theorem State.withCfg_burner (s : State) (x : Cfg) (n : Burner) :
    (s.withCfg x).burner n = s.burner n := rfl
@[simp] theorem State.withPst_chan (s : State) (x : Pst) (c : Channel) :
    (s.withPst x).chan c = s.chan c := rfl
@[simp] theorem State.withPst_heater (s : State) (x : Pst) (h : Heater) :
    (s.withPst x).heater h = s.heater h := rfl
@[simp] theorem State.withPst_heaterOut (s : State) (x : Pst) (h : Heater) :
    (s.withPst x).heaterOut h = s.heaterOut h := rfl
@[simp] theorem State.withPst_burner (s : State) (x : Pst) (n : Burner) :
    (s.withPst x).burner n = s.burner n := rfl
@[simp] theorem State.withPst_install (s : State) (x : Pst) (h : Heater) :
    (s.withPst x).install h = s.install h := rfl
@[simp] theorem State.withPlr_heater (s : State) (x : Plr) (h : Heater) :
    (s.withPlr x).heater h = s.heater h := rfl
@[simp] theorem State.withPlr_heaterOut (s : State) (x : Plr) (h : Heater) :
    (s.withPlr x).heaterOut h = s.heaterOut h := rfl
@[simp] theorem State.withPlr_burner (s : State) (x : Plr) (n : Burner) :
    (s.withPlr x).burner n = s.burner n := rfl
@[simp] theorem State.withPlr_install (s : State) (x : Plr) (h : Heater) :
    (s.withPlr x).install h = s.install h := rfl
@[simp] theorem State.withPfs_chan (s : State) (x : Pfs) (c : Channel) :
    (s.withPfs x).chan c = s.chan c := rfl
@[simp] theorem State.withPfs_heaterOut (s : State) (x : Pfs) (h : Heater) :
    (s.withPfs x).heaterOut h = s.heaterOut h := rfl
@[simp] theorem State.withPfs_burner (s : State) (x : Pfs) (n : Burner) :
    (s.withPfs x).burner n = s.burner n := rfl
@[simp] theorem State.withPfs_install (s : State) (x : Pfs) (h : Heater) :
    (s.withPfs x).install h = s.install h := rfl
@[simp] theorem State.withOvr_chan (s : State) (x : Ovr) (c : Channel) :
    (s.withOvr x).chan c = s.chan c := rfl
@[simp] theorem State.withOvr_heater (s : State) (x : Ovr) (h : Heater) :
    (s.withOvr x).heater h = s.heater h := rfl
@[simp] theorem State.withOvr_heaterOut (s : State) (x : Ovr) (h : Heater) :
    (s.withOvr x).heaterOut h = s.heaterOut h := rfl
@[simp] theorem State.withOvr_burner (s : State) (x : Ovr) (n : Burner) :
    (s.withOvr x).burner n = s.burner n := rfl
@[simp] theorem State.withOvr_install (s : State) (x : Ovr) (h : Heater) :
    (s.withOvr x).install h = s.install h := rfl
@[simp] theorem State.withBsv_chan (s : State) (x : Bsv) (c : Channel) :
    (s.withBsv x).chan c = s.chan c := rfl
@[simp] theorem State.withBsv_heater (s : State) (x : Bsv) (h : Heater) :
    (s.withBsv x).heater h = s.heater h := rfl
@[simp] theorem State.withBsv_heaterOut (s : State) (x : Bsv) (h : Heater) :
    (s.withBsv x).heaterOut h = s.heaterOut h := rfl
@[simp] theorem State.withBsv_install (s : State) (x : Bsv) (h : Heater) :
    (s.withBsv x).install h = s.install h := rfl
@[simp] theorem State.withOut_chan (s : State) (x : OutStage) (c : Channel) :
    (s.withOut x).chan c = s.chan c := rfl
@[simp] theorem State.withOut_heater (s : State) (x : OutStage) (h : Heater) :
    (s.withOut x).heater h = s.heater h := rfl
@[simp] theorem State.withOut_burner (s : State) (x : OutStage) (n : Burner) :
    (s.withOut x).burner n = s.burner n := rfl
@[simp] theorem State.withOut_install (s : State) (x : OutStage) (h : Heater) :
    (s.withOut x).install h = s.install h := rfl
@[simp] theorem State.withNtq_chan (s : State) (x : Ntq) (c : Channel) :
    (s.withNtq x).chan c = s.chan c := rfl
@[simp] theorem State.withNtq_heater (s : State) (x : Ntq) (h : Heater) :
    (s.withNtq x).heater h = s.heater h := rfl
@[simp] theorem State.withNtq_heaterOut (s : State) (x : Ntq) (h : Heater) :
    (s.withNtq x).heaterOut h = s.heaterOut h := rfl
@[simp] theorem State.withNtq_burner (s : State) (x : Ntq) (n : Burner) :
    (s.withNtq x).burner n = s.burner n := rfl
@[simp] theorem State.withNtq_install (s : State) (x : Ntq) (h : Heater) :
    (s.withNtq x).install h = s.install h := rfl
@[simp] theorem State.withDrawn_chan (s : State) (x : Nat) (c : Channel) :
    (s.withDrawn x).chan c = s.chan c := rfl
@[simp] theorem State.withDrawn_heater (s : State) (x : Nat) (h : Heater) :
    (s.withDrawn x).heater h = s.heater h := rfl
@[simp] theorem State.withDrawn_heaterOut (s : State) (x : Nat) (h : Heater) :
    (s.withDrawn x).heaterOut h = s.heaterOut h := rfl
@[simp] theorem State.withDrawn_burner (s : State) (x : Nat) (n : Burner) :
    (s.withDrawn x).burner n = s.burner n := rfl
@[simp] theorem State.withDrawn_install (s : State) (x : Nat) (h : Heater) :
    (s.withDrawn x).install h = s.install h := rfl
@[simp] theorem State.withPending_chan (s : State) (x : List Instr) (c : Channel) :
    (s.withPending x).chan c = s.chan c := rfl
@[simp] theorem State.withPending_heater (s : State) (x : List Instr) (h : Heater) :
    (s.withPending x).heater h = s.heater h := rfl
@[simp] theorem State.withPending_heaterOut (s : State) (x : List Instr) (h : Heater) :
    (s.withPending x).heaterOut h = s.heaterOut h := rfl
@[simp] theorem State.withPending_burner (s : State) (x : List Instr) (n : Burner) :
    (s.withPending x).burner n = s.burner n := rfl
@[simp] theorem State.withPending_install (s : State) (x : List Instr) (h : Heater) :
    (s.withPending x).install h = s.install h := rfl

/-! ## Updates of one record -/

@[simp] theorem State.setChan_pins (s : State) (c : Channel) (r : ChannelRec) :
    (s.setChan c r).pins = s.pins := rfl
@[simp] theorem State.setChan_lnk (s : State) (c : Channel) (r : ChannelRec) :
    (s.setChan c r).lnk = s.lnk := rfl
@[simp] theorem State.setChan_cfg (s : State) (c : Channel) (r : ChannelRec) :
    (s.setChan c r).cfg = s.cfg := rfl
@[simp] theorem State.setChan_pst (s : State) (c : Channel) (r : ChannelRec) :
    (s.setChan c r).pst = s.pst := rfl
@[simp] theorem State.setChan_pfs (s : State) (c : Channel) (r : ChannelRec) :
    (s.setChan c r).pfs = s.pfs := rfl
@[simp] theorem State.setChan_ovr (s : State) (c : Channel) (r : ChannelRec) :
    (s.setChan c r).ovr = s.ovr := rfl
@[simp] theorem State.setChan_bsv (s : State) (c : Channel) (r : ChannelRec) :
    (s.setChan c r).bsv = s.bsv := rfl
@[simp] theorem State.setChan_out (s : State) (c : Channel) (r : ChannelRec) :
    (s.setChan c r).out = s.out := rfl
@[simp] theorem State.setChan_ntq (s : State) (c : Channel) (r : ChannelRec) :
    (s.setChan c r).ntq = s.ntq := rfl
@[simp] theorem State.setChan_drawn (s : State) (c : Channel) (r : ChannelRec) :
    (s.setChan c r).drawn = s.drawn := rfl
@[simp] theorem State.setChan_pending (s : State) (c : Channel) (r : ChannelRec) :
    (s.setChan c r).pending = s.pending := rfl
@[simp] theorem State.setChan_heater (s : State) (c : Channel) (r : ChannelRec) (h : Heater) :
    (s.setChan c r).heater h = s.heater h := rfl
@[simp] theorem State.setChan_heaterOut (s : State) (c : Channel) (r : ChannelRec) (h : Heater) :
    (s.setChan c r).heaterOut h = s.heaterOut h := rfl
@[simp] theorem State.setChan_burner (s : State) (c : Channel) (r : ChannelRec) (n : Burner) :
    (s.setChan c r).burner n = s.burner n := rfl
@[simp] theorem State.setChan_install (s : State) (c : Channel) (r : ChannelRec) (h : Heater) :
    (s.setChan c r).install h = s.install h := rfl
@[simp] theorem State.setChan_chan_self (s : State) (c : Channel) (r : ChannelRec) :
    (s.setChan c r).chan c = r := PerChannel.get_set_self _ _ _
theorem State.setChan_chan_of_ne (s : State) {c d : Channel} (r : ChannelRec) (hd : d ≠ c) :
    (s.setChan c r).chan d = s.chan d := PerChannel.get_set_of_ne _ _ hd
theorem State.setChan_chan (s : State) (c d : Channel) (r : ChannelRec) :
    (s.setChan c r).chan d = if d = c then r else s.chan d := PerChannel.get_set _ _ _ _

@[simp] theorem State.setHeater_pins (s : State) (h : Heater) (r : HeaterFrame) :
    (s.setHeater h r).pins = s.pins := rfl
@[simp] theorem State.setHeater_lnk (s : State) (h : Heater) (r : HeaterFrame) :
    (s.setHeater h r).lnk = s.lnk := rfl
@[simp] theorem State.setHeater_cfg (s : State) (h : Heater) (r : HeaterFrame) :
    (s.setHeater h r).cfg = s.cfg := rfl
@[simp] theorem State.setHeater_pst (s : State) (h : Heater) (r : HeaterFrame) :
    (s.setHeater h r).pst = s.pst := rfl
@[simp] theorem State.setHeater_plr (s : State) (h : Heater) (r : HeaterFrame) :
    (s.setHeater h r).plr = s.plr := rfl
@[simp] theorem State.setHeater_ovr (s : State) (h : Heater) (r : HeaterFrame) :
    (s.setHeater h r).ovr = s.ovr := rfl
@[simp] theorem State.setHeater_bsv (s : State) (h : Heater) (r : HeaterFrame) :
    (s.setHeater h r).bsv = s.bsv := rfl
@[simp] theorem State.setHeater_out (s : State) (h : Heater) (r : HeaterFrame) :
    (s.setHeater h r).out = s.out := rfl
@[simp] theorem State.setHeater_ntq (s : State) (h : Heater) (r : HeaterFrame) :
    (s.setHeater h r).ntq = s.ntq := rfl
@[simp] theorem State.setHeater_drawn (s : State) (h : Heater) (r : HeaterFrame) :
    (s.setHeater h r).drawn = s.drawn := rfl
@[simp] theorem State.setHeater_pending (s : State) (h : Heater) (r : HeaterFrame) :
    (s.setHeater h r).pending = s.pending := rfl
@[simp] theorem State.setHeater_chan (s : State) (h : Heater) (r : HeaterFrame) (c : Channel) :
    (s.setHeater h r).chan c = s.chan c := rfl
@[simp] theorem State.setHeater_heaterOut (s : State) (h : Heater) (r : HeaterFrame) (k : Heater) :
    (s.setHeater h r).heaterOut k = s.heaterOut k := rfl
@[simp] theorem State.setHeater_burner (s : State) (h : Heater) (r : HeaterFrame) (n : Burner) :
    (s.setHeater h r).burner n = s.burner n := rfl
@[simp] theorem State.setHeater_install (s : State) (h : Heater) (r : HeaterFrame) (k : Heater) :
    (s.setHeater h r).install k = s.install k := rfl
@[simp] theorem State.setHeater_heater_self (s : State) (h : Heater) (r : HeaterFrame) :
    (s.setHeater h r).heater h = r := PerHeater.get_set_self _ _ _
theorem State.setHeater_heater_of_ne (s : State) {h d : Heater} (r : HeaterFrame) (hd : d ≠ h) :
    (s.setHeater h r).heater d = s.heater d := PerHeater.get_set_of_ne _ _ hd
theorem State.setHeater_heater (s : State) (h d : Heater) (r : HeaterFrame) :
    (s.setHeater h r).heater d = if d = h then r else s.heater d := PerHeater.get_set _ _ _ _

@[simp] theorem State.setHeaterOut_pins (s : State) (h : Heater) (r : HeaterOut) :
    (s.setHeaterOut h r).pins = s.pins := rfl
@[simp] theorem State.setHeaterOut_lnk (s : State) (h : Heater) (r : HeaterOut) :
    (s.setHeaterOut h r).lnk = s.lnk := rfl
@[simp] theorem State.setHeaterOut_cfg (s : State) (h : Heater) (r : HeaterOut) :
    (s.setHeaterOut h r).cfg = s.cfg := rfl
@[simp] theorem State.setHeaterOut_pst (s : State) (h : Heater) (r : HeaterOut) :
    (s.setHeaterOut h r).pst = s.pst := rfl
@[simp] theorem State.setHeaterOut_plr (s : State) (h : Heater) (r : HeaterOut) :
    (s.setHeaterOut h r).plr = s.plr := rfl
@[simp] theorem State.setHeaterOut_pfs (s : State) (h : Heater) (r : HeaterOut) :
    (s.setHeaterOut h r).pfs = s.pfs := rfl
@[simp] theorem State.setHeaterOut_ovr (s : State) (h : Heater) (r : HeaterOut) :
    (s.setHeaterOut h r).ovr = s.ovr := rfl
@[simp] theorem State.setHeaterOut_bsv (s : State) (h : Heater) (r : HeaterOut) :
    (s.setHeaterOut h r).bsv = s.bsv := rfl
@[simp] theorem State.setHeaterOut_ntq (s : State) (h : Heater) (r : HeaterOut) :
    (s.setHeaterOut h r).ntq = s.ntq := rfl
@[simp] theorem State.setHeaterOut_drawn (s : State) (h : Heater) (r : HeaterOut) :
    (s.setHeaterOut h r).drawn = s.drawn := rfl
@[simp] theorem State.setHeaterOut_pending (s : State) (h : Heater) (r : HeaterOut) :
    (s.setHeaterOut h r).pending = s.pending := rfl
@[simp] theorem State.setHeaterOut_chan (s : State) (h : Heater) (r : HeaterOut) (c : Channel) :
    (s.setHeaterOut h r).chan c = s.chan c := rfl
@[simp] theorem State.setHeaterOut_heater (s : State) (h : Heater) (r : HeaterOut) (k : Heater) :
    (s.setHeaterOut h r).heater k = s.heater k := rfl
@[simp] theorem State.setHeaterOut_burner (s : State) (h : Heater) (r : HeaterOut) (n : Burner) :
    (s.setHeaterOut h r).burner n = s.burner n := rfl
@[simp] theorem State.setHeaterOut_install (s : State) (h : Heater) (r : HeaterOut) (k : Heater) :
    (s.setHeaterOut h r).install k = s.install k := rfl
@[simp] theorem State.setHeaterOut_heaterOut_self (s : State) (h : Heater) (r : HeaterOut) :
    (s.setHeaterOut h r).heaterOut h = r := PerHeater.get_set_self _ _ _
theorem State.setHeaterOut_heaterOut_of_ne (s : State) {h d : Heater} (r : HeaterOut) (hd : d ≠ h) :
    (s.setHeaterOut h r).heaterOut d = s.heaterOut d := PerHeater.get_set_of_ne _ _ hd
theorem State.setHeaterOut_heaterOut (s : State) (h d : Heater) (r : HeaterOut) :
    (s.setHeaterOut h r).heaterOut d = if d = h then r else s.heaterOut d := PerHeater.get_set _ _ _ _

@[simp] theorem State.setBurner_pins (s : State) (n : Burner) (r : BurnerRec) :
    (s.setBurner n r).pins = s.pins := rfl
@[simp] theorem State.setBurner_lnk (s : State) (n : Burner) (r : BurnerRec) :
    (s.setBurner n r).lnk = s.lnk := rfl
@[simp] theorem State.setBurner_cfg (s : State) (n : Burner) (r : BurnerRec) :
    (s.setBurner n r).cfg = s.cfg := rfl
@[simp] theorem State.setBurner_pst (s : State) (n : Burner) (r : BurnerRec) :
    (s.setBurner n r).pst = s.pst := rfl
@[simp] theorem State.setBurner_plr (s : State) (n : Burner) (r : BurnerRec) :
    (s.setBurner n r).plr = s.plr := rfl
@[simp] theorem State.setBurner_pfs (s : State) (n : Burner) (r : BurnerRec) :
    (s.setBurner n r).pfs = s.pfs := rfl
@[simp] theorem State.setBurner_ovr (s : State) (n : Burner) (r : BurnerRec) :
    (s.setBurner n r).ovr = s.ovr := rfl
@[simp] theorem State.setBurner_out (s : State) (n : Burner) (r : BurnerRec) :
    (s.setBurner n r).out = s.out := rfl
@[simp] theorem State.setBurner_ntq (s : State) (n : Burner) (r : BurnerRec) :
    (s.setBurner n r).ntq = s.ntq := rfl
@[simp] theorem State.setBurner_drawn (s : State) (n : Burner) (r : BurnerRec) :
    (s.setBurner n r).drawn = s.drawn := rfl
@[simp] theorem State.setBurner_pending (s : State) (n : Burner) (r : BurnerRec) :
    (s.setBurner n r).pending = s.pending := rfl
@[simp] theorem State.setBurner_chan (s : State) (n : Burner) (r : BurnerRec) (c : Channel) :
    (s.setBurner n r).chan c = s.chan c := rfl
@[simp] theorem State.setBurner_heater (s : State) (n : Burner) (r : BurnerRec) (h : Heater) :
    (s.setBurner n r).heater h = s.heater h := rfl
@[simp] theorem State.setBurner_heaterOut (s : State) (n : Burner) (r : BurnerRec) (h : Heater) :
    (s.setBurner n r).heaterOut h = s.heaterOut h := rfl
@[simp] theorem State.setBurner_install (s : State) (n : Burner) (r : BurnerRec) (h : Heater) :
    (s.setBurner n r).install h = s.install h := rfl
@[simp] theorem State.setBurner_burner_self (s : State) (n : Burner) (r : BurnerRec) :
    (s.setBurner n r).burner n = r := PerBurner.get_set_self _ _ _
theorem State.setBurner_burner_of_ne (s : State) {n d : Burner} (r : BurnerRec) (hd : d ≠ n) :
    (s.setBurner n r).burner d = s.burner d := PerBurner.get_set_of_ne _ _ hd
theorem State.setBurner_burner (s : State) (n d : Burner) (r : BurnerRec) :
    (s.setBurner n r).burner d = if d = n then r else s.burner d := PerBurner.get_set _ _ _ _

@[simp] theorem State.setChan_plr_cursor (s : State) (c : Channel) (r : ChannelRec) :
    (s.setChan c r).plr.cursor = s.plr.cursor := rfl
@[simp] theorem State.setHeater_pfs_sched (s : State) (h : Heater) (r : HeaterFrame) :
    (s.setHeater h r).pfs.sched = s.pfs.sched := rfl
@[simp] theorem State.setHeater_pfs_frameNumber (s : State) (h : Heater) (r : HeaterFrame) :
    (s.setHeater h r).pfs.frameNumber = s.pfs.frameNumber := rfl
@[simp] theorem State.setHeater_pfs_slot (s : State) (h : Heater) (r : HeaterFrame) :
    (s.setHeater h r).pfs.slot = s.pfs.slot := rfl
@[simp] theorem State.setHeater_pfs_capacity (s : State) (h : Heater) (r : HeaterFrame) :
    (s.setHeater h r).pfs.capacity = s.pfs.capacity := rfl
@[simp] theorem State.setHeater_pfs_slotTimer (s : State) (h : Heater) (r : HeaterFrame) :
    (s.setHeater h r).pfs.slotTimer = s.pfs.slotTimer := rfl
@[simp] theorem State.setHeaterOut_out_contactor (s : State) (h : Heater) (r : HeaterOut) :
    (s.setHeaterOut h r).out.contactor = s.out.contactor := rfl
@[simp] theorem State.setHeaterOut_out_supplyOff (s : State) (h : Heater) (r : HeaterOut) :
    (s.setHeaterOut h r).out.supplyOff = s.out.supplyOff := rfl
@[simp] theorem State.setHeaterOut_out_check (s : State) (h : Heater) (r : HeaterOut) :
    (s.setHeaterOut h r).out.check = s.out.check := rfl
@[simp] theorem State.setHeaterOut_out_proving (s : State) (h : Heater) (r : HeaterOut) :
    (s.setHeaterOut h r).out.proving = s.out.proving := rfl
@[simp] theorem State.setHeaterOut_out_locked (s : State) (h : Heater) (r : HeaterOut) :
    (s.setHeaterOut h r).out.locked = s.out.locked := rfl
@[simp] theorem State.setBurner_bsv_queue (s : State) (n : Burner) (r : BurnerRec) :
    (s.setBurner n r).bsv.queue = s.bsv.queue := rfl
@[simp] theorem State.setBurner_bsv_owner (s : State) (n : Burner) (r : BurnerRec) :
    (s.setBurner n r).bsv.owner = s.bsv.owner := rfl
@[simp] theorem State.setBurner_bsv_rest (s : State) (n : Burner) (r : BurnerRec) :
    (s.setBurner n r).bsv.rest = s.bsv.rest := rfl
@[simp] theorem State.setBurner_bsv_hold (s : State) (n : Burner) (r : BurnerRec) :
    (s.setBurner n r).bsv.hold = s.bsv.hold := rfl

end Sys2Proof.Machine
end

