-- ==== Sys2Proof/Laws/Frames.lean ====
section
/-! SUPPORT. The frame of each shared operation, said once: the blocks that it leaves as they were. -/

namespace Sys2Proof.Machine

open Sys2Proof

/-- A fold of updates keeps what each update keeps. -/
theorem foldl_keeps {σ α β : Type} {f : σ → α → σ} {g : σ → β} (hf : ∀ s a, g (f s a) = g s)
    (l : List α) (s : σ) : g (l.foldl f s) = g s := by
  induction l generalizing s with
  | nil => rfl
  | cons a l ih => rw [List.foldl_cons, ih, hf]

@[simp] theorem assertionCheck_frame (s : State) :
    (assertionCheck s).pins = s.pins ∧
    (assertionCheck s).lnk = s.lnk ∧
    (assertionCheck s).cfg = s.cfg ∧
    (assertionCheck s).pst = s.pst ∧
    (assertionCheck s).plr = s.plr ∧
    (assertionCheck s).pfs = s.pfs ∧
    (assertionCheck s).ovr = s.ovr ∧
    (assertionCheck s).bsv = s.bsv ∧
    (assertionCheck s).out = s.out ∧
    (assertionCheck s).drawn = s.drawn ∧
    (assertionCheck s).pending = s.pending ∧
    (∀ hh : Heater, (assertionCheck s).install hh = s.install hh) ∧
    (∀ cc : Channel, (assertionCheck s).chan cc = s.chan cc) ∧
    (∀ hh : Heater, (assertionCheck s).heater hh = s.heater hh) ∧
    (∀ nn : Burner, (assertionCheck s).burner nn = s.burner nn) ∧
    (∀ hh : Heater, (assertionCheck s).heaterOut hh = s.heaterOut hh) := by
  unfold assertionCheck
  dsimp only
  repeat' split
  all_goals simp

@[simp] theorem raise_frame (n : Notice) (s : State) :
    (raise n s).pins = s.pins ∧
    (raise n s).lnk = s.lnk ∧
    (raise n s).cfg = s.cfg ∧
    (raise n s).pst = s.pst ∧
    (raise n s).plr = s.plr ∧
    (raise n s).pfs = s.pfs ∧
    (raise n s).ovr = s.ovr ∧
    (raise n s).bsv = s.bsv ∧
    (raise n s).out = s.out ∧
    (raise n s).drawn = s.drawn ∧
    (raise n s).pending = s.pending ∧
    (∀ hh : Heater, (raise n s).install hh = s.install hh) ∧
    (∀ cc : Channel, (raise n s).chan cc = s.chan cc) ∧
    (∀ hh : Heater, (raise n s).heater hh = s.heater hh) ∧
    (∀ nn : Burner, (raise n s).burner nn = s.burner nn) ∧
    (∀ hh : Heater, (raise n s).heaterOut hh = s.heaterOut hh) := by
  unfold raise
  dsimp only
  repeat' split
  all_goals simp

@[simp] theorem armLine_frame (s : State) :
    (armLine s).pins = s.pins ∧
    (armLine s).lnk = s.lnk ∧
    (armLine s).cfg = s.cfg ∧
    (armLine s).pst = s.pst ∧
    (armLine s).plr = s.plr ∧
    (armLine s).pfs = s.pfs ∧
    (armLine s).ovr = s.ovr ∧
    (armLine s).bsv = s.bsv ∧
    (armLine s).out = s.out ∧
    (armLine s).drawn = s.drawn ∧
    (armLine s).pending = s.pending ∧
    (∀ hh : Heater, (armLine s).install hh = s.install hh) ∧
    (∀ cc : Channel, (armLine s).chan cc = s.chan cc) ∧
    (∀ hh : Heater, (armLine s).heater hh = s.heater hh) ∧
    (∀ nn : Burner, (armLine s).burner nn = s.burner nn) ∧
    (∀ hh : Heater, (armLine s).heaterOut hh = s.heaterOut hh) := by
  unfold armLine
  dsimp only
  simp

@[simp] theorem evalCoolingFan_frame (s : State) :
    (evalCoolingFan s).pins = s.pins ∧
    (evalCoolingFan s).lnk = s.lnk ∧
    (evalCoolingFan s).cfg = s.cfg ∧
    (evalCoolingFan s).pst = s.pst ∧
    (evalCoolingFan s).plr = s.plr ∧
    (evalCoolingFan s).pfs = s.pfs ∧
    (evalCoolingFan s).bsv = s.bsv ∧
    (evalCoolingFan s).out = s.out ∧
    (evalCoolingFan s).ntq = s.ntq ∧
    (evalCoolingFan s).drawn = s.drawn ∧
    (evalCoolingFan s).pending = s.pending ∧
    (∀ hh : Heater, (evalCoolingFan s).install hh = s.install hh) ∧
    (∀ cc : Channel, (evalCoolingFan s).chan cc = s.chan cc) ∧
    (∀ hh : Heater, (evalCoolingFan s).heater hh = s.heater hh) ∧
    (∀ nn : Burner, (evalCoolingFan s).burner nn = s.burner nn) ∧
    (∀ hh : Heater, (evalCoolingFan s).heaterOut hh = s.heaterOut hh) := by
  unfold evalCoolingFan
  dsimp only
  simp

@[simp] theorem evalCoolingFanAtReading_frame (s : State) :
    (evalCoolingFanAtReading s).pins = s.pins ∧
    (evalCoolingFanAtReading s).lnk = s.lnk ∧
    (evalCoolingFanAtReading s).cfg = s.cfg ∧
    (evalCoolingFanAtReading s).pst = s.pst ∧
    (evalCoolingFanAtReading s).plr = s.plr ∧
    (evalCoolingFanAtReading s).pfs = s.pfs ∧
    (evalCoolingFanAtReading s).bsv = s.bsv ∧
    (evalCoolingFanAtReading s).out = s.out ∧
    (evalCoolingFanAtReading s).ntq = s.ntq ∧
    (evalCoolingFanAtReading s).drawn = s.drawn ∧
    (evalCoolingFanAtReading s).pending = s.pending ∧
    (∀ hh : Heater, (evalCoolingFanAtReading s).install hh = s.install hh) ∧
    (∀ cc : Channel, (evalCoolingFanAtReading s).chan cc = s.chan cc) ∧
    (∀ hh : Heater, (evalCoolingFanAtReading s).heater hh = s.heater hh) ∧
    (∀ nn : Burner, (evalCoolingFanAtReading s).burner nn = s.burner nn) ∧
    (∀ hh : Heater, (evalCoolingFanAtReading s).heaterOut hh = s.heaterOut hh) := by
  unfold evalCoolingFanAtReading
  dsimp only
  simp

@[simp] theorem settle_frame (h : Heater) (s : State) :
    (settle h s).pins = s.pins ∧
    (settle h s).lnk = s.lnk ∧
    (settle h s).cfg = s.cfg ∧
    (settle h s).pst = s.pst ∧
    (settle h s).plr = s.plr ∧
    (settle h s).pfs = s.pfs ∧
    (settle h s).ovr = s.ovr ∧
    (settle h s).bsv = s.bsv ∧
    (settle h s).ntq = s.ntq ∧
    (settle h s).drawn = s.drawn ∧
    (settle h s).pending = s.pending ∧
    (∀ hh : Heater, (settle h s).install hh = s.install hh) ∧
    (∀ cc : Channel, (settle h s).chan cc = s.chan cc) ∧
    (∀ hh : Heater, (settle h s).heater hh = s.heater hh) ∧
    (∀ nn : Burner, (settle h s).burner nn = s.burner nn) := by
  unfold settle
  dsimp only
  repeat' split
  all_goals simp

@[simp] theorem settleAll_frame (s : State) :
    (settleAll s).pins = s.pins ∧
    (settleAll s).lnk = s.lnk ∧
    (settleAll s).cfg = s.cfg ∧
    (settleAll s).pst = s.pst ∧
    (settleAll s).plr = s.plr ∧
    (settleAll s).pfs = s.pfs ∧
    (settleAll s).ovr = s.ovr ∧
    (settleAll s).bsv = s.bsv ∧
    (settleAll s).ntq = s.ntq ∧
    (settleAll s).drawn = s.drawn ∧
    (settleAll s).pending = s.pending ∧
    (∀ hh : Heater, (settleAll s).install hh = s.install hh) ∧
    (∀ cc : Channel, (settleAll s).chan cc = s.chan cc) ∧
    (∀ hh : Heater, (settleAll s).heater hh = s.heater hh) ∧
    (∀ nn : Burner, (settleAll s).burner nn = s.burner nn) := by
  have h_pins : (settleAll s).pins = s.pins := by
    unfold settleAll
    simp [foldl_keeps (g := State.pins)]
  have h_lnk : (settleAll s).lnk = s.lnk := by
    unfold settleAll
    simp [foldl_keeps (g := State.lnk)]
  have h_cfg : (settleAll s).cfg = s.cfg := by
    unfold settleAll
    simp [foldl_keeps (g := State.cfg)]
  have h_pst : (settleAll s).pst = s.pst := by
    unfold settleAll
    simp [foldl_keeps (g := State.pst)]
  have h_plr : (settleAll s).plr = s.plr := by
    unfold settleAll
    simp [foldl_keeps (g := State.plr)]
  have h_pfs : (settleAll s).pfs = s.pfs := by
    unfold settleAll
    simp [foldl_keeps (g := State.pfs)]
  have h_ovr : (settleAll s).ovr = s.ovr := by
    unfold settleAll
    simp [foldl_keeps (g := State.ovr)]
  have h_bsv : (settleAll s).bsv = s.bsv := by
    unfold settleAll
    simp [foldl_keeps (g := State.bsv)]
  have h_ntq : (settleAll s).ntq = s.ntq := by
    unfold settleAll
    simp [foldl_keeps (g := State.ntq)]
  have h_drawn : (settleAll s).drawn = s.drawn := by
    unfold settleAll
    simp [foldl_keeps (g := State.drawn)]
  have h_pending : (settleAll s).pending = s.pending := by
    unfold settleAll
    simp [foldl_keeps (g := State.pending)]
  exact ⟨h_pins, h_lnk, h_cfg, h_pst, h_plr, h_pfs, h_ovr, h_bsv, h_ntq, h_drawn, h_pending, fun _ => by simp only [State.install, h_cfg], fun _ => by simp only [State.chan, h_plr], fun _ => by simp only [State.heater, h_pfs], fun _ => by simp only [State.burner, h_bsv]⟩

@[simp] theorem handCommand_frame (h : Heater) (on : Bool) (s : State) :
    (handCommand h on s).pins = s.pins ∧
    (handCommand h on s).lnk = s.lnk ∧
    (handCommand h on s).cfg = s.cfg ∧
    (handCommand h on s).pst = s.pst ∧
    (handCommand h on s).plr = s.plr ∧
    (handCommand h on s).ovr = s.ovr ∧
    (handCommand h on s).bsv = s.bsv ∧
    (handCommand h on s).ntq = s.ntq ∧
    (handCommand h on s).drawn = s.drawn ∧
    (handCommand h on s).pending = s.pending ∧
    (∀ hh : Heater, (handCommand h on s).install hh = s.install hh) ∧
    (∀ cc : Channel, (handCommand h on s).chan cc = s.chan cc) ∧
    (∀ nn : Burner, (handCommand h on s).burner nn = s.burner nn) := by
  unfold handCommand
  dsimp only
  simp

@[simp] theorem relayOff_frame (h : Heater) (s : State) :
    (relayOff h s).pins = s.pins ∧
    (relayOff h s).lnk = s.lnk ∧
    (relayOff h s).cfg = s.cfg ∧
    (relayOff h s).pst = s.pst ∧
    (relayOff h s).plr = s.plr ∧
    (relayOff h s).bsv = s.bsv ∧
    (relayOff h s).ntq = s.ntq ∧
    (relayOff h s).drawn = s.drawn ∧
    (relayOff h s).pending = s.pending ∧
    (∀ hh : Heater, (relayOff h s).install hh = s.install hh) ∧
    (∀ cc : Channel, (relayOff h s).chan cc = s.chan cc) ∧
    (∀ nn : Burner, (relayOff h s).burner nn = s.burner nn) := by
  unfold relayOff
  dsimp only
  repeat' split
  all_goals simp

@[simp] theorem dropHeater_frame (h : Heater) (s : State) :
    (dropHeater h s).pins = s.pins ∧
    (dropHeater h s).lnk = s.lnk ∧
    (dropHeater h s).cfg = s.cfg ∧
    (dropHeater h s).pst = s.pst ∧
    (dropHeater h s).plr = s.plr ∧
    (dropHeater h s).bsv = s.bsv ∧
    (dropHeater h s).ntq = s.ntq ∧
    (dropHeater h s).drawn = s.drawn ∧
    (dropHeater h s).pending = s.pending ∧
    (∀ hh : Heater, (dropHeater h s).install hh = s.install hh) ∧
    (∀ cc : Channel, (dropHeater h s).chan cc = s.chan cc) ∧
    (∀ nn : Burner, (dropHeater h s).burner nn = s.burner nn) := by
  unfold dropHeater
  dsimp only
  repeat' split
  all_goals simp

@[simp] theorem latePlace_frame (h : Heater) (d : Nat) (s : State) :
    (latePlace h d s).pins = s.pins ∧
    (latePlace h d s).lnk = s.lnk ∧
    (latePlace h d s).cfg = s.cfg ∧
    (latePlace h d s).pst = s.pst ∧
    (latePlace h d s).plr = s.plr ∧
    (latePlace h d s).ovr = s.ovr ∧
    (latePlace h d s).bsv = s.bsv ∧
    (latePlace h d s).out = s.out ∧
    (latePlace h d s).ntq = s.ntq ∧
    (latePlace h d s).drawn = s.drawn ∧
    (latePlace h d s).pending = s.pending ∧
    (∀ hh : Heater, (latePlace h d s).install hh = s.install hh) ∧
    (∀ cc : Channel, (latePlace h d s).chan cc = s.chan cc) ∧
    (∀ nn : Burner, (latePlace h d s).burner nn = s.burner nn) ∧
    (∀ hh : Heater, (latePlace h d s).heaterOut hh = s.heaterOut hh) := by
  unfold latePlace
  dsimp only
  simp

@[simp] theorem demandChange_frame (h : Heater) (d : Nat) (s : State) :
    (demandChange h d s).pins = s.pins ∧
    (demandChange h d s).lnk = s.lnk ∧
    (demandChange h d s).cfg = s.cfg ∧
    (demandChange h d s).pst = s.pst ∧
    (demandChange h d s).plr = s.plr ∧
    (demandChange h d s).bsv = s.bsv ∧
    (demandChange h d s).ntq = s.ntq ∧
    (demandChange h d s).drawn = s.drawn ∧
    (demandChange h d s).pending = s.pending ∧
    (∀ hh : Heater, (demandChange h d s).install hh = s.install hh) ∧
    (∀ cc : Channel, (demandChange h d s).chan cc = s.chan cc) ∧
    (∀ nn : Burner, (demandChange h d s).burner nn = s.burner nn) := by
  unfold demandChange
  dsimp only
  repeat' split
  all_goals simp

@[simp] theorem holdHeater_frame (h : Heater) (cause : HoldCause) (s : State) :
    (holdHeater h cause s).pins = s.pins ∧
    (holdHeater h cause s).lnk = s.lnk ∧
    (holdHeater h cause s).cfg = s.cfg ∧
    (holdHeater h cause s).pst = s.pst ∧
    (holdHeater h cause s).plr = s.plr ∧
    (holdHeater h cause s).bsv = s.bsv ∧
    (holdHeater h cause s).ntq = s.ntq ∧
    (holdHeater h cause s).drawn = s.drawn ∧
    (holdHeater h cause s).pending = s.pending ∧
    (∀ hh : Heater, (holdHeater h cause s).install hh = s.install hh) ∧
    (∀ cc : Channel, (holdHeater h cause s).chan cc = s.chan cc) ∧
    (∀ nn : Burner, (holdHeater h cause s).burner nn = s.burner nn) := by
  unfold holdHeater
  dsimp only
  repeat' split
  all_goals simp

@[simp] theorem setCommand_frame (h : Heater) (s : State) :
    (setCommand h s).pins = s.pins ∧
    (setCommand h s).lnk = s.lnk ∧
    (setCommand h s).cfg = s.cfg ∧
    (setCommand h s).pst = s.pst ∧
    (setCommand h s).plr = s.plr ∧
    (setCommand h s).ovr = s.ovr ∧
    (setCommand h s).bsv = s.bsv ∧
    (setCommand h s).ntq = s.ntq ∧
    (setCommand h s).drawn = s.drawn ∧
    (setCommand h s).pending = s.pending ∧
    (∀ hh : Heater, (setCommand h s).install hh = s.install hh) ∧
    (∀ cc : Channel, (setCommand h s).chan cc = s.chan cc) ∧
    (∀ nn : Burner, (setCommand h s).burner nn = s.burner nn) := by
  unfold setCommand
  dsimp only
  repeat' split
  all_goals simp

@[simp] theorem setCommands_frame (s : State) :
    (setCommands s).pins = s.pins ∧
    (setCommands s).lnk = s.lnk ∧
    (setCommands s).cfg = s.cfg ∧
    (setCommands s).pst = s.pst ∧
    (setCommands s).plr = s.plr ∧
    (setCommands s).bsv = s.bsv ∧
    (setCommands s).ntq = s.ntq ∧
    (setCommands s).drawn = s.drawn ∧
    (setCommands s).pending = s.pending ∧
    (∀ hh : Heater, (setCommands s).install hh = s.install hh) ∧
    (∀ cc : Channel, (setCommands s).chan cc = s.chan cc) ∧
    (∀ nn : Burner, (setCommands s).burner nn = s.burner nn) := by
  have h_pins : (setCommands s).pins = s.pins := by
    unfold setCommands
    dsimp only
    split <;> simp [foldl_keeps (g := State.pins)]
  have h_lnk : (setCommands s).lnk = s.lnk := by
    unfold setCommands
    dsimp only
    split <;> simp [foldl_keeps (g := State.lnk)]
  have h_cfg : (setCommands s).cfg = s.cfg := by
    unfold setCommands
    dsimp only
    split <;> simp [foldl_keeps (g := State.cfg)]
  have h_pst : (setCommands s).pst = s.pst := by
    unfold setCommands
    dsimp only
    split <;> simp [foldl_keeps (g := State.pst)]
  have h_plr : (setCommands s).plr = s.plr := by
    unfold setCommands
    dsimp only
    split <;> simp [foldl_keeps (g := State.plr)]
  have h_bsv : (setCommands s).bsv = s.bsv := by
    unfold setCommands
    dsimp only
    split <;> simp [foldl_keeps (g := State.bsv)]
  have h_ntq : (setCommands s).ntq = s.ntq := by
    unfold setCommands
    dsimp only
    split <;> simp [foldl_keeps (g := State.ntq)]
  have h_drawn : (setCommands s).drawn = s.drawn := by
    unfold setCommands
    dsimp only
    split <;> simp [foldl_keeps (g := State.drawn)]
  have h_pending : (setCommands s).pending = s.pending := by
    unfold setCommands
    dsimp only
    split <;> simp [foldl_keeps (g := State.pending)]
  exact ⟨h_pins, h_lnk, h_cfg, h_pst, h_plr, h_bsv, h_ntq, h_drawn, h_pending, fun _ => by simp only [State.install, h_cfg], fun _ => by simp only [State.chan, h_plr], fun _ => by simp only [State.burner, h_bsv]⟩

@[simp] theorem clearHeater_frame (h : Heater) (s : State) :
    (clearHeater h s).pins = s.pins ∧
    (clearHeater h s).lnk = s.lnk ∧
    (clearHeater h s).cfg = s.cfg ∧
    (clearHeater h s).pst = s.pst ∧
    (clearHeater h s).plr = s.plr ∧
    (clearHeater h s).ovr = s.ovr ∧
    (clearHeater h s).bsv = s.bsv ∧
    (clearHeater h s).out = s.out ∧
    (clearHeater h s).ntq = s.ntq ∧
    (clearHeater h s).drawn = s.drawn ∧
    (clearHeater h s).pending = s.pending ∧
    (∀ hh : Heater, (clearHeater h s).install hh = s.install hh) ∧
    (∀ cc : Channel, (clearHeater h s).chan cc = s.chan cc) ∧
    (∀ nn : Burner, (clearHeater h s).burner nn = s.burner nn) ∧
    (∀ hh : Heater, (clearHeater h s).heaterOut hh = s.heaterOut hh) := by
  unfold clearHeater
  dsimp only
  repeat' split
  all_goals simp

@[simp] theorem takeDemand_frame (h : Heater) (s : State) :
    (takeDemand h s).pins = s.pins ∧
    (takeDemand h s).lnk = s.lnk ∧
    (takeDemand h s).cfg = s.cfg ∧
    (takeDemand h s).pst = s.pst ∧
    (takeDemand h s).plr = s.plr ∧
    (takeDemand h s).ovr = s.ovr ∧
    (takeDemand h s).bsv = s.bsv ∧
    (takeDemand h s).out = s.out ∧
    (takeDemand h s).ntq = s.ntq ∧
    (takeDemand h s).drawn = s.drawn ∧
    (takeDemand h s).pending = s.pending ∧
    (∀ hh : Heater, (takeDemand h s).install hh = s.install hh) ∧
    (∀ cc : Channel, (takeDemand h s).chan cc = s.chan cc) ∧
    (∀ nn : Burner, (takeDemand h s).burner nn = s.burner nn) ∧
    (∀ hh : Heater, (takeDemand h s).heaterOut hh = s.heaterOut hh) := by
  unfold takeDemand
  dsimp only
  repeat' split
  all_goals simp

@[simp] theorem placeHeater_frame (p : Bool) (h : Heater) (s : State) :
    (placeHeater p h s).pins = s.pins ∧
    (placeHeater p h s).lnk = s.lnk ∧
    (placeHeater p h s).cfg = s.cfg ∧
    (placeHeater p h s).pst = s.pst ∧
    (placeHeater p h s).plr = s.plr ∧
    (placeHeater p h s).ovr = s.ovr ∧
    (placeHeater p h s).bsv = s.bsv ∧
    (placeHeater p h s).out = s.out ∧
    (placeHeater p h s).ntq = s.ntq ∧
    (placeHeater p h s).drawn = s.drawn ∧
    (placeHeater p h s).pending = s.pending ∧
    (∀ hh : Heater, (placeHeater p h s).install hh = s.install hh) ∧
    (∀ cc : Channel, (placeHeater p h s).chan cc = s.chan cc) ∧
    (∀ nn : Burner, (placeHeater p h s).burner nn = s.burner nn) ∧
    (∀ hh : Heater, (placeHeater p h s).heaterOut hh = s.heaterOut hh) := by
  unfold placeHeater
  dsimp only
  simp

@[simp] theorem updateStarve_frame (h : Heater) (s : State) :
    (updateStarve h s).pins = s.pins ∧
    (updateStarve h s).lnk = s.lnk ∧
    (updateStarve h s).cfg = s.cfg ∧
    (updateStarve h s).pst = s.pst ∧
    (updateStarve h s).plr = s.plr ∧
    (updateStarve h s).ovr = s.ovr ∧
    (updateStarve h s).bsv = s.bsv ∧
    (updateStarve h s).out = s.out ∧
    (updateStarve h s).ntq = s.ntq ∧
    (updateStarve h s).drawn = s.drawn ∧
    (updateStarve h s).pending = s.pending ∧
    (∀ hh : Heater, (updateStarve h s).install hh = s.install hh) ∧
    (∀ cc : Channel, (updateStarve h s).chan cc = s.chan cc) ∧
    (∀ nn : Burner, (updateStarve h s).burner nn = s.burner nn) ∧
    (∀ hh : Heater, (updateStarve h s).heaterOut hh = s.heaterOut hh) := by
  unfold updateStarve
  dsimp only
  repeat' split
  all_goals simp

@[simp] theorem placeFrame_frame (s : State) :
    (placeFrame s).pins = s.pins ∧
    (placeFrame s).lnk = s.lnk ∧
    (placeFrame s).cfg = s.cfg ∧
    (placeFrame s).pst = s.pst ∧
    (placeFrame s).plr = s.plr ∧
    (placeFrame s).ovr = s.ovr ∧
    (placeFrame s).bsv = s.bsv ∧
    (placeFrame s).out = s.out ∧
    (placeFrame s).ntq = s.ntq ∧
    (placeFrame s).drawn = s.drawn ∧
    (placeFrame s).pending = s.pending ∧
    (∀ hh : Heater, (placeFrame s).install hh = s.install hh) ∧
    (∀ cc : Channel, (placeFrame s).chan cc = s.chan cc) ∧
    (∀ nn : Burner, (placeFrame s).burner nn = s.burner nn) ∧
    (∀ hh : Heater, (placeFrame s).heaterOut hh = s.heaterOut hh) := by
  have h_pins : (placeFrame s).pins = s.pins := by
    unfold placeFrame
    dsimp only
    rw [foldl_keeps (g := State.pins), foldl_keeps (g := State.pins), foldl_keeps (g := State.pins), foldl_keeps (g := State.pins)] <;> simp
  have h_lnk : (placeFrame s).lnk = s.lnk := by
    unfold placeFrame
    dsimp only
    rw [foldl_keeps (g := State.lnk), foldl_keeps (g := State.lnk), foldl_keeps (g := State.lnk), foldl_keeps (g := State.lnk)] <;> simp
  have h_cfg : (placeFrame s).cfg = s.cfg := by
    unfold placeFrame
    dsimp only
    rw [foldl_keeps (g := State.cfg), foldl_keeps (g := State.cfg), foldl_keeps (g := State.cfg), foldl_keeps (g := State.cfg)] <;> simp
  have h_pst : (placeFrame s).pst = s.pst := by
    unfold placeFrame
    dsimp only
    rw [foldl_keeps (g := State.pst), foldl_keeps (g := State.pst), foldl_keeps (g := State.pst), foldl_keeps (g := State.pst)] <;> simp
  have h_plr : (placeFrame s).plr = s.plr := by
    unfold placeFrame
    dsimp only
    rw [foldl_keeps (g := State.plr), foldl_keeps (g := State.plr), foldl_keeps (g := State.plr), foldl_keeps (g := State.plr)] <;> simp
  have h_ovr : (placeFrame s).ovr = s.ovr := by
    unfold placeFrame
    dsimp only
    rw [foldl_keeps (g := State.ovr), foldl_keeps (g := State.ovr), foldl_keeps (g := State.ovr), foldl_keeps (g := State.ovr)] <;> simp
  have h_bsv : (placeFrame s).bsv = s.bsv := by
    unfold placeFrame
    dsimp only
    rw [foldl_keeps (g := State.bsv), foldl_keeps (g := State.bsv), foldl_keeps (g := State.bsv), foldl_keeps (g := State.bsv)] <;> simp
  have h_out : (placeFrame s).out = s.out := by
    unfold placeFrame
    dsimp only
    rw [foldl_keeps (g := State.out), foldl_keeps (g := State.out), foldl_keeps (g := State.out), foldl_keeps (g := State.out)] <;> simp
  have h_ntq : (placeFrame s).ntq = s.ntq := by
    unfold placeFrame
    dsimp only
    rw [foldl_keeps (g := State.ntq), foldl_keeps (g := State.ntq), foldl_keeps (g := State.ntq), foldl_keeps (g := State.ntq)] <;> simp
  have h_drawn : (placeFrame s).drawn = s.drawn := by
    unfold placeFrame
    dsimp only
    rw [foldl_keeps (g := State.drawn), foldl_keeps (g := State.drawn), foldl_keeps (g := State.drawn), foldl_keeps (g := State.drawn)] <;> simp
  have h_pending : (placeFrame s).pending = s.pending := by
    unfold placeFrame
    dsimp only
    rw [foldl_keeps (g := State.pending), foldl_keeps (g := State.pending), foldl_keeps (g := State.pending), foldl_keeps (g := State.pending)] <;> simp
  exact ⟨h_pins, h_lnk, h_cfg, h_pst, h_plr, h_ovr, h_bsv, h_out, h_ntq, h_drawn, h_pending, fun _ => by simp only [State.install, h_cfg], fun _ => by simp only [State.chan, h_plr], fun _ => by simp only [State.burner, h_bsv], fun _ => by simp only [State.heaterOut, h_out]⟩

@[simp] theorem openFrame_frame (s : State) :
    (openFrame s).pins = s.pins ∧
    (openFrame s).lnk = s.lnk ∧
    (openFrame s).cfg = s.cfg ∧
    (openFrame s).pst = s.pst ∧
    (openFrame s).plr = s.plr ∧
    (openFrame s).ovr = s.ovr ∧
    (openFrame s).bsv = s.bsv ∧
    (openFrame s).out = s.out ∧
    (openFrame s).ntq = s.ntq ∧
    (openFrame s).drawn = s.drawn ∧
    (openFrame s).pending = s.pending ∧
    (∀ hh : Heater, (openFrame s).install hh = s.install hh) ∧
    (∀ cc : Channel, (openFrame s).chan cc = s.chan cc) ∧
    (∀ nn : Burner, (openFrame s).burner nn = s.burner nn) ∧
    (∀ hh : Heater, (openFrame s).heaterOut hh = s.heaterOut hh) := by
  have h_pins : (openFrame s).pins = s.pins := by
    unfold openFrame
    simp [foldl_keeps (g := State.pins)]
  have h_lnk : (openFrame s).lnk = s.lnk := by
    unfold openFrame
    simp [foldl_keeps (g := State.lnk)]
  have h_cfg : (openFrame s).cfg = s.cfg := by
    unfold openFrame
    simp [foldl_keeps (g := State.cfg)]
  have h_pst : (openFrame s).pst = s.pst := by
    unfold openFrame
    simp [foldl_keeps (g := State.pst)]
  have h_plr : (openFrame s).plr = s.plr := by
    unfold openFrame
    simp [foldl_keeps (g := State.plr)]
  have h_ovr : (openFrame s).ovr = s.ovr := by
    unfold openFrame
    simp [foldl_keeps (g := State.ovr)]
  have h_bsv : (openFrame s).bsv = s.bsv := by
    unfold openFrame
    simp [foldl_keeps (g := State.bsv)]
  have h_out : (openFrame s).out = s.out := by
    unfold openFrame
    simp [foldl_keeps (g := State.out)]
  have h_ntq : (openFrame s).ntq = s.ntq := by
    unfold openFrame
    simp [foldl_keeps (g := State.ntq)]
  have h_drawn : (openFrame s).drawn = s.drawn := by
    unfold openFrame
    simp [foldl_keeps (g := State.drawn)]
  have h_pending : (openFrame s).pending = s.pending := by
    unfold openFrame
    simp [foldl_keeps (g := State.pending)]
  exact ⟨h_pins, h_lnk, h_cfg, h_pst, h_plr, h_ovr, h_bsv, h_out, h_ntq, h_drawn, h_pending, fun _ => by simp only [State.install, h_cfg], fun _ => by simp only [State.chan, h_plr], fun _ => by simp only [State.burner, h_bsv], fun _ => by simp only [State.heaterOut, h_out]⟩

@[simp] theorem releaseGenerator_frame (s : State) :
    (releaseGenerator s).pins = s.pins ∧
    (releaseGenerator s).lnk = s.lnk ∧
    (releaseGenerator s).cfg = s.cfg ∧
    (releaseGenerator s).pst = s.pst ∧
    (releaseGenerator s).plr = s.plr ∧
    (releaseGenerator s).pfs = s.pfs ∧
    (releaseGenerator s).ovr = s.ovr ∧
    (releaseGenerator s).out = s.out ∧
    (releaseGenerator s).ntq = s.ntq ∧
    (releaseGenerator s).drawn = s.drawn ∧
    (releaseGenerator s).pending = s.pending ∧
    (∀ hh : Heater, (releaseGenerator s).install hh = s.install hh) ∧
    (∀ cc : Channel, (releaseGenerator s).chan cc = s.chan cc) ∧
    (∀ hh : Heater, (releaseGenerator s).heater hh = s.heater hh) ∧
    (∀ hh : Heater, (releaseGenerator s).heaterOut hh = s.heaterOut hh) := by
  unfold releaseGenerator
  dsimp only
  simp

@[simp] theorem releaseIfOwner_frame (n : Burner) (s : State) :
    (releaseIfOwner n s).pins = s.pins ∧
    (releaseIfOwner n s).lnk = s.lnk ∧
    (releaseIfOwner n s).cfg = s.cfg ∧
    (releaseIfOwner n s).pst = s.pst ∧
    (releaseIfOwner n s).plr = s.plr ∧
    (releaseIfOwner n s).pfs = s.pfs ∧
    (releaseIfOwner n s).ovr = s.ovr ∧
    (releaseIfOwner n s).out = s.out ∧
    (releaseIfOwner n s).ntq = s.ntq ∧
    (releaseIfOwner n s).drawn = s.drawn ∧
    (releaseIfOwner n s).pending = s.pending ∧
    (∀ hh : Heater, (releaseIfOwner n s).install hh = s.install hh) ∧
    (∀ cc : Channel, (releaseIfOwner n s).chan cc = s.chan cc) ∧
    (∀ hh : Heater, (releaseIfOwner n s).heater hh = s.heater hh) ∧
    (∀ hh : Heater, (releaseIfOwner n s).heaterOut hh = s.heaterOut hh) := by
  unfold releaseIfOwner
  repeat' split
  all_goals simp

@[simp] theorem grantCheck_frame (s : State) :
    (grantCheck s).pins = s.pins ∧
    (grantCheck s).lnk = s.lnk ∧
    (grantCheck s).cfg = s.cfg ∧
    (grantCheck s).pst = s.pst ∧
    (grantCheck s).plr = s.plr ∧
    (grantCheck s).pfs = s.pfs ∧
    (grantCheck s).ovr = s.ovr ∧
    (grantCheck s).out = s.out ∧
    (grantCheck s).ntq = s.ntq ∧
    (grantCheck s).drawn = s.drawn ∧
    (grantCheck s).pending = s.pending ∧
    (∀ hh : Heater, (grantCheck s).install hh = s.install hh) ∧
    (∀ cc : Channel, (grantCheck s).chan cc = s.chan cc) ∧
    (∀ hh : Heater, (grantCheck s).heater hh = s.heater hh) ∧
    (∀ hh : Heater, (grantCheck s).heaterOut hh = s.heaterOut hh) := by
  unfold grantCheck
  dsimp only
  repeat' split
  all_goals simp

@[simp] theorem joinQueue_frame (n : Burner) (s : State) :
    (joinQueue n s).pins = s.pins ∧
    (joinQueue n s).lnk = s.lnk ∧
    (joinQueue n s).cfg = s.cfg ∧
    (joinQueue n s).pst = s.pst ∧
    (joinQueue n s).plr = s.plr ∧
    (joinQueue n s).pfs = s.pfs ∧
    (joinQueue n s).ovr = s.ovr ∧
    (joinQueue n s).out = s.out ∧
    (joinQueue n s).ntq = s.ntq ∧
    (joinQueue n s).drawn = s.drawn ∧
    (joinQueue n s).pending = s.pending ∧
    (∀ hh : Heater, (joinQueue n s).install hh = s.install hh) ∧
    (∀ cc : Channel, (joinQueue n s).chan cc = s.chan cc) ∧
    (∀ hh : Heater, (joinQueue n s).heater hh = s.heater hh) ∧
    (∀ hh : Heater, (joinQueue n s).heaterOut hh = s.heaterOut hh) := by
  unfold joinQueue
  dsimp only
  simp

@[simp] theorem shutBurner_frame (n : Burner) (b : BurnerState) (s : State) :
    (shutBurner n b s).pins = s.pins ∧
    (shutBurner n b s).lnk = s.lnk ∧
    (shutBurner n b s).cfg = s.cfg ∧
    (shutBurner n b s).pst = s.pst ∧
    (shutBurner n b s).plr = s.plr ∧
    (shutBurner n b s).pfs = s.pfs ∧
    (shutBurner n b s).ovr = s.ovr ∧
    (shutBurner n b s).out = s.out ∧
    (shutBurner n b s).ntq = s.ntq ∧
    (shutBurner n b s).drawn = s.drawn ∧
    (shutBurner n b s).pending = s.pending ∧
    (∀ hh : Heater, (shutBurner n b s).install hh = s.install hh) ∧
    (∀ cc : Channel, (shutBurner n b s).chan cc = s.chan cc) ∧
    (∀ hh : Heater, (shutBurner n b s).heater hh = s.heater hh) ∧
    (∀ hh : Heater, (shutBurner n b s).heaterOut hh = s.heaterOut hh) := by
  unfold shutBurner
  dsimp only
  simp

@[simp] theorem withdrawPermit_frame (n : Burner) (cause : PlanEnd) (s : State) :
    (withdrawPermit n cause s).pins = s.pins ∧
    (withdrawPermit n cause s).lnk = s.lnk ∧
    (withdrawPermit n cause s).cfg = s.cfg ∧
    (withdrawPermit n cause s).pst = s.pst ∧
    (withdrawPermit n cause s).plr = s.plr ∧
    (withdrawPermit n cause s).pfs = s.pfs ∧
    (withdrawPermit n cause s).ovr = s.ovr ∧
    (withdrawPermit n cause s).out = s.out ∧
    (withdrawPermit n cause s).drawn = s.drawn ∧
    (withdrawPermit n cause s).pending = s.pending ∧
    (∀ hh : Heater, (withdrawPermit n cause s).install hh = s.install hh) ∧
    (∀ cc : Channel, (withdrawPermit n cause s).chan cc = s.chan cc) ∧
    (∀ hh : Heater, (withdrawPermit n cause s).heater hh = s.heater hh) ∧
    (∀ hh : Heater, (withdrawPermit n cause s).heaterOut hh = s.heaterOut hh) := by
  unfold withdrawPermit
  dsimp only
  repeat' split
  all_goals simp

@[simp] theorem returnPermit_frame (n : Burner) (s : State) :
    (returnPermit n s).pins = s.pins ∧
    (returnPermit n s).lnk = s.lnk ∧
    (returnPermit n s).cfg = s.cfg ∧
    (returnPermit n s).pst = s.pst ∧
    (returnPermit n s).plr = s.plr ∧
    (returnPermit n s).pfs = s.pfs ∧
    (returnPermit n s).ovr = s.ovr ∧
    (returnPermit n s).out = s.out ∧
    (returnPermit n s).ntq = s.ntq ∧
    (returnPermit n s).drawn = s.drawn ∧
    (returnPermit n s).pending = s.pending ∧
    (∀ hh : Heater, (returnPermit n s).install hh = s.install hh) ∧
    (∀ cc : Channel, (returnPermit n s).chan cc = s.chan cc) ∧
    (∀ hh : Heater, (returnPermit n s).heater hh = s.heater hh) ∧
    (∀ hh : Heater, (returnPermit n s).heaterOut hh = s.heaterOut hh) := by
  unfold returnPermit
  dsimp only
  simp

@[simp] theorem stopBurner_frame (n : Burner) (s : State) :
    (stopBurner n s).pins = s.pins ∧
    (stopBurner n s).lnk = s.lnk ∧
    (stopBurner n s).cfg = s.cfg ∧
    (stopBurner n s).pst = s.pst ∧
    (stopBurner n s).plr = s.plr ∧
    (stopBurner n s).pfs = s.pfs ∧
    (stopBurner n s).ovr = s.ovr ∧
    (stopBurner n s).out = s.out ∧
    (stopBurner n s).ntq = s.ntq ∧
    (stopBurner n s).drawn = s.drawn ∧
    (stopBurner n s).pending = s.pending ∧
    (∀ hh : Heater, (stopBurner n s).install hh = s.install hh) ∧
    (∀ cc : Channel, (stopBurner n s).chan cc = s.chan cc) ∧
    (∀ hh : Heater, (stopBurner n s).heater hh = s.heater hh) ∧
    (∀ hh : Heater, (stopBurner n s).heaterOut hh = s.heaterOut hh) := by
  unfold stopBurner
  repeat' split
  all_goals simp

@[simp] theorem stopBurners_frame (s : State) :
    (stopBurners s).pins = s.pins ∧
    (stopBurners s).lnk = s.lnk ∧
    (stopBurners s).cfg = s.cfg ∧
    (stopBurners s).pst = s.pst ∧
    (stopBurners s).plr = s.plr ∧
    (stopBurners s).pfs = s.pfs ∧
    (stopBurners s).ovr = s.ovr ∧
    (stopBurners s).out = s.out ∧
    (stopBurners s).ntq = s.ntq ∧
    (stopBurners s).drawn = s.drawn ∧
    (stopBurners s).pending = s.pending ∧
    (∀ hh : Heater, (stopBurners s).install hh = s.install hh) ∧
    (∀ cc : Channel, (stopBurners s).chan cc = s.chan cc) ∧
    (∀ hh : Heater, (stopBurners s).heater hh = s.heater hh) ∧
    (∀ hh : Heater, (stopBurners s).heaterOut hh = s.heaterOut hh) := by
  have h_pins : (stopBurners s).pins = s.pins := by
    unfold stopBurners
    simp [foldl_keeps (g := State.pins)]
  have h_lnk : (stopBurners s).lnk = s.lnk := by
    unfold stopBurners
    simp [foldl_keeps (g := State.lnk)]
  have h_cfg : (stopBurners s).cfg = s.cfg := by
    unfold stopBurners
    simp [foldl_keeps (g := State.cfg)]
  have h_pst : (stopBurners s).pst = s.pst := by
    unfold stopBurners
    simp [foldl_keeps (g := State.pst)]
  have h_plr : (stopBurners s).plr = s.plr := by
    unfold stopBurners
    simp [foldl_keeps (g := State.plr)]
  have h_pfs : (stopBurners s).pfs = s.pfs := by
    unfold stopBurners
    simp [foldl_keeps (g := State.pfs)]
  have h_ovr : (stopBurners s).ovr = s.ovr := by
    unfold stopBurners
    simp [foldl_keeps (g := State.ovr)]
  have h_out : (stopBurners s).out = s.out := by
    unfold stopBurners
    simp [foldl_keeps (g := State.out)]
  have h_ntq : (stopBurners s).ntq = s.ntq := by
    unfold stopBurners
    simp [foldl_keeps (g := State.ntq)]
  have h_drawn : (stopBurners s).drawn = s.drawn := by
    unfold stopBurners
    simp [foldl_keeps (g := State.drawn)]
  have h_pending : (stopBurners s).pending = s.pending := by
    unfold stopBurners
    simp [foldl_keeps (g := State.pending)]
  exact ⟨h_pins, h_lnk, h_cfg, h_pst, h_plr, h_pfs, h_ovr, h_out, h_ntq, h_drawn, h_pending, fun _ => by simp only [State.install, h_cfg], fun _ => by simp only [State.chan, h_plr], fun _ => by simp only [State.heater, h_pfs], fun _ => by simp only [State.heaterOut, h_out]⟩

@[simp] theorem proveFlame_frame (n : Burner) (s : State) :
    (proveFlame n s).pins = s.pins ∧
    (proveFlame n s).lnk = s.lnk ∧
    (proveFlame n s).cfg = s.cfg ∧
    (proveFlame n s).pst = s.pst ∧
    (proveFlame n s).plr = s.plr ∧
    (proveFlame n s).pfs = s.pfs ∧
    (proveFlame n s).ovr = s.ovr ∧
    (proveFlame n s).out = s.out ∧
    (proveFlame n s).ntq = s.ntq ∧
    (proveFlame n s).drawn = s.drawn ∧
    (proveFlame n s).pending = s.pending ∧
    (∀ hh : Heater, (proveFlame n s).install hh = s.install hh) ∧
    (∀ cc : Channel, (proveFlame n s).chan cc = s.chan cc) ∧
    (∀ hh : Heater, (proveFlame n s).heater hh = s.heater hh) ∧
    (∀ hh : Heater, (proveFlame n s).heaterOut hh = s.heaterOut hh) := by
  unfold proveFlame
  dsimp only
  simp

@[simp] theorem failAttempt_frame (n : Burner) (s : State) :
    (failAttempt n s).pins = s.pins ∧
    (failAttempt n s).lnk = s.lnk ∧
    (failAttempt n s).cfg = s.cfg ∧
    (failAttempt n s).pst = s.pst ∧
    (failAttempt n s).plr = s.plr ∧
    (failAttempt n s).pfs = s.pfs ∧
    (failAttempt n s).ovr = s.ovr ∧
    (failAttempt n s).out = s.out ∧
    (failAttempt n s).drawn = s.drawn ∧
    (failAttempt n s).pending = s.pending ∧
    (∀ hh : Heater, (failAttempt n s).install hh = s.install hh) ∧
    (∀ cc : Channel, (failAttempt n s).chan cc = s.chan cc) ∧
    (∀ hh : Heater, (failAttempt n s).heater hh = s.heater hh) ∧
    (∀ hh : Heater, (failAttempt n s).heaterOut hh = s.heaterOut hh) := by
  unfold failAttempt
  dsimp only
  repeat' split
  all_goals simp

@[simp] theorem loseFlame_frame (n : Burner) (s : State) :
    (loseFlame n s).pins = s.pins ∧
    (loseFlame n s).lnk = s.lnk ∧
    (loseFlame n s).cfg = s.cfg ∧
    (loseFlame n s).pst = s.pst ∧
    (loseFlame n s).plr = s.plr ∧
    (loseFlame n s).pfs = s.pfs ∧
    (loseFlame n s).ovr = s.ovr ∧
    (loseFlame n s).out = s.out ∧
    (loseFlame n s).drawn = s.drawn ∧
    (loseFlame n s).pending = s.pending ∧
    (∀ hh : Heater, (loseFlame n s).install hh = s.install hh) ∧
    (∀ cc : Channel, (loseFlame n s).chan cc = s.chan cc) ∧
    (∀ hh : Heater, (loseFlame n s).heater hh = s.heater hh) ∧
    (∀ hh : Heater, (loseFlame n s).heaterOut hh = s.heaterOut hh) := by
  unfold loseFlame
  dsimp only
  repeat' split
  all_goals simp

@[simp] theorem thawFlame_frame (n : Burner) (s : State) :
    (thawFlame n s).pins = s.pins ∧
    (thawFlame n s).lnk = s.lnk ∧
    (thawFlame n s).cfg = s.cfg ∧
    (thawFlame n s).pst = s.pst ∧
    (thawFlame n s).plr = s.plr ∧
    (thawFlame n s).pfs = s.pfs ∧
    (thawFlame n s).ovr = s.ovr ∧
    (thawFlame n s).out = s.out ∧
    (thawFlame n s).drawn = s.drawn ∧
    (thawFlame n s).pending = s.pending ∧
    (∀ hh : Heater, (thawFlame n s).install hh = s.install hh) ∧
    (∀ cc : Channel, (thawFlame n s).chan cc = s.chan cc) ∧
    (∀ hh : Heater, (thawFlame n s).heater hh = s.heater hh) ∧
    (∀ hh : Heater, (thawFlame n s).heaterOut hh = s.heaterOut hh) := by
  unfold thawFlame
  dsimp only
  repeat' split
  all_goals simp

@[simp] theorem openKnob_frame (n : Burner) (s : State) :
    (openKnob n s).pins = s.pins ∧
    (openKnob n s).lnk = s.lnk ∧
    (openKnob n s).cfg = s.cfg ∧
    (openKnob n s).pst = s.pst ∧
    (openKnob n s).plr = s.plr ∧
    (openKnob n s).pfs = s.pfs ∧
    (openKnob n s).ovr = s.ovr ∧
    (openKnob n s).out = s.out ∧
    (openKnob n s).ntq = s.ntq ∧
    (openKnob n s).drawn = s.drawn ∧
    (openKnob n s).pending = s.pending ∧
    (∀ hh : Heater, (openKnob n s).install hh = s.install hh) ∧
    (∀ cc : Channel, (openKnob n s).chan cc = s.chan cc) ∧
    (∀ hh : Heater, (openKnob n s).heater hh = s.heater hh) ∧
    (∀ hh : Heater, (openKnob n s).heaterOut hh = s.heaterOut hh) := by
  unfold openKnob
  dsimp only
  repeat' split
  all_goals simp

@[simp] theorem closeKnob_frame (n : Burner) (s : State) :
    (closeKnob n s).pins = s.pins ∧
    (closeKnob n s).lnk = s.lnk ∧
    (closeKnob n s).cfg = s.cfg ∧
    (closeKnob n s).pst = s.pst ∧
    (closeKnob n s).plr = s.plr ∧
    (closeKnob n s).pfs = s.pfs ∧
    (closeKnob n s).ovr = s.ovr ∧
    (closeKnob n s).out = s.out ∧
    (closeKnob n s).ntq = s.ntq ∧
    (closeKnob n s).drawn = s.drawn ∧
    (closeKnob n s).pending = s.pending ∧
    (∀ hh : Heater, (closeKnob n s).install hh = s.install hh) ∧
    (∀ cc : Channel, (closeKnob n s).chan cc = s.chan cc) ∧
    (∀ hh : Heater, (closeKnob n s).heater hh = s.heater hh) ∧
    (∀ hh : Heater, (closeKnob n s).heaterOut hh = s.heaterOut hh) := by
  unfold closeKnob
  dsimp only
  simp

@[simp] theorem lockSupervisor_frame (s : State) :
    (lockSupervisor s).pins = s.pins ∧
    (lockSupervisor s).lnk = s.lnk ∧
    (lockSupervisor s).cfg = s.cfg ∧
    (lockSupervisor s).pst = s.pst ∧
    (lockSupervisor s).plr = s.plr ∧
    (lockSupervisor s).pfs = s.pfs ∧
    (lockSupervisor s).ovr = s.ovr ∧
    (lockSupervisor s).out = s.out ∧
    (lockSupervisor s).ntq = s.ntq ∧
    (lockSupervisor s).drawn = s.drawn ∧
    (lockSupervisor s).pending = s.pending ∧
    (∀ hh : Heater, (lockSupervisor s).install hh = s.install hh) ∧
    (∀ cc : Channel, (lockSupervisor s).chan cc = s.chan cc) ∧
    (∀ hh : Heater, (lockSupervisor s).heater hh = s.heater hh) ∧
    (∀ hh : Heater, (lockSupervisor s).heaterOut hh = s.heaterOut hh) := by
  unfold lockSupervisor
  simp

@[simp] theorem formSet_frame (s : State) :
    (formSet s).pins = s.pins ∧
    (formSet s).lnk = s.lnk ∧
    (formSet s).cfg = s.cfg ∧
    (formSet s).pst = s.pst ∧
    (formSet s).plr = s.plr ∧
    (formSet s).pfs = s.pfs ∧
    (formSet s).bsv = s.bsv ∧
    (formSet s).out = s.out ∧
    (formSet s).ntq = s.ntq ∧
    (formSet s).drawn = s.drawn ∧
    (formSet s).pending = s.pending ∧
    (∀ hh : Heater, (formSet s).install hh = s.install hh) ∧
    (∀ cc : Channel, (formSet s).chan cc = s.chan cc) ∧
    (∀ hh : Heater, (formSet s).heater hh = s.heater hh) ∧
    (∀ nn : Burner, (formSet s).burner nn = s.burner nn) ∧
    (∀ hh : Heater, (formSet s).heaterOut hh = s.heaterOut hh) := by
  unfold formSet
  dsimp only
  simp

@[simp] theorem handDemand_frame (h : OvenHeater) (d : Nat) (s : State) :
    (handDemand h d s).pins = s.pins ∧
    (handDemand h d s).lnk = s.lnk ∧
    (handDemand h d s).cfg = s.cfg ∧
    (handDemand h d s).pst = s.pst ∧
    (handDemand h d s).plr = s.plr ∧
    (handDemand h d s).bsv = s.bsv ∧
    (handDemand h d s).ntq = s.ntq ∧
    (handDemand h d s).drawn = s.drawn ∧
    (handDemand h d s).pending = s.pending ∧
    (∀ hh : Heater, (handDemand h d s).install hh = s.install hh) ∧
    (∀ cc : Channel, (handDemand h d s).chan cc = s.chan cc) ∧
    (∀ nn : Burner, (handDemand h d s).burner nn = s.burner nn) := by
  unfold handDemand
  dsimp only
  repeat' split
  all_goals simp

@[simp] theorem handAll_frame (s : State) :
    (handAll s).pins = s.pins ∧
    (handAll s).lnk = s.lnk ∧
    (handAll s).cfg = s.cfg ∧
    (handAll s).pst = s.pst ∧
    (handAll s).plr = s.plr ∧
    (handAll s).bsv = s.bsv ∧
    (handAll s).ntq = s.ntq ∧
    (handAll s).drawn = s.drawn ∧
    (handAll s).pending = s.pending ∧
    (∀ hh : Heater, (handAll s).install hh = s.install hh) ∧
    (∀ cc : Channel, (handAll s).chan cc = s.chan cc) ∧
    (∀ nn : Burner, (handAll s).burner nn = s.burner nn) := by
  have h_pins : (handAll s).pins = s.pins := by
    unfold handAll
    simp [foldl_keeps (g := State.pins)]
  have h_lnk : (handAll s).lnk = s.lnk := by
    unfold handAll
    simp [foldl_keeps (g := State.lnk)]
  have h_cfg : (handAll s).cfg = s.cfg := by
    unfold handAll
    simp [foldl_keeps (g := State.cfg)]
  have h_pst : (handAll s).pst = s.pst := by
    unfold handAll
    simp [foldl_keeps (g := State.pst)]
  have h_plr : (handAll s).plr = s.plr := by
    unfold handAll
    simp [foldl_keeps (g := State.plr)]
  have h_bsv : (handAll s).bsv = s.bsv := by
    unfold handAll
    simp [foldl_keeps (g := State.bsv)]
  have h_ntq : (handAll s).ntq = s.ntq := by
    unfold handAll
    simp [foldl_keeps (g := State.ntq)]
  have h_drawn : (handAll s).drawn = s.drawn := by
    unfold handAll
    simp [foldl_keeps (g := State.drawn)]
  have h_pending : (handAll s).pending = s.pending := by
    unfold handAll
    simp [foldl_keeps (g := State.pending)]
  exact ⟨h_pins, h_lnk, h_cfg, h_pst, h_plr, h_bsv, h_ntq, h_drawn, h_pending, fun _ => by simp only [State.install, h_cfg], fun _ => by simp only [State.chan, h_plr], fun _ => by simp only [State.burner, h_bsv]⟩

@[simp] theorem handZero_frame (s : State) :
    (handZero s).pins = s.pins ∧
    (handZero s).lnk = s.lnk ∧
    (handZero s).cfg = s.cfg ∧
    (handZero s).pst = s.pst ∧
    (handZero s).plr = s.plr ∧
    (handZero s).bsv = s.bsv ∧
    (handZero s).ntq = s.ntq ∧
    (handZero s).drawn = s.drawn ∧
    (handZero s).pending = s.pending ∧
    (∀ hh : Heater, (handZero s).install hh = s.install hh) ∧
    (∀ cc : Channel, (handZero s).chan cc = s.chan cc) ∧
    (∀ nn : Burner, (handZero s).burner nn = s.burner nn) := by
  have h_pins : (handZero s).pins = s.pins := by
    unfold handZero
    simp [foldl_keeps (g := State.pins)]
  have h_lnk : (handZero s).lnk = s.lnk := by
    unfold handZero
    simp [foldl_keeps (g := State.lnk)]
  have h_cfg : (handZero s).cfg = s.cfg := by
    unfold handZero
    simp [foldl_keeps (g := State.cfg)]
  have h_pst : (handZero s).pst = s.pst := by
    unfold handZero
    simp [foldl_keeps (g := State.pst)]
  have h_plr : (handZero s).plr = s.plr := by
    unfold handZero
    simp [foldl_keeps (g := State.plr)]
  have h_bsv : (handZero s).bsv = s.bsv := by
    unfold handZero
    simp [foldl_keeps (g := State.bsv)]
  have h_ntq : (handZero s).ntq = s.ntq := by
    unfold handZero
    simp [foldl_keeps (g := State.ntq)]
  have h_drawn : (handZero s).drawn = s.drawn := by
    unfold handZero
    simp [foldl_keeps (g := State.drawn)]
  have h_pending : (handZero s).pending = s.pending := by
    unfold handZero
    simp [foldl_keeps (g := State.pending)]
  exact ⟨h_pins, h_lnk, h_cfg, h_pst, h_plr, h_bsv, h_ntq, h_drawn, h_pending, fun _ => by simp only [State.install, h_cfg], fun _ => by simp only [State.chan, h_plr], fun _ => by simp only [State.burner, h_bsv]⟩

@[simp] theorem refreshOven_frame (s : State) :
    (refreshOven s).pins = s.pins ∧
    (refreshOven s).lnk = s.lnk ∧
    (refreshOven s).cfg = s.cfg ∧
    (refreshOven s).pst = s.pst ∧
    (refreshOven s).plr = s.plr ∧
    (refreshOven s).pfs = s.pfs ∧
    (refreshOven s).bsv = s.bsv ∧
    (refreshOven s).out = s.out ∧
    (refreshOven s).ntq = s.ntq ∧
    (refreshOven s).drawn = s.drawn ∧
    (refreshOven s).pending = s.pending ∧
    (∀ hh : Heater, (refreshOven s).install hh = s.install hh) ∧
    (∀ cc : Channel, (refreshOven s).chan cc = s.chan cc) ∧
    (∀ hh : Heater, (refreshOven s).heater hh = s.heater hh) ∧
    (∀ nn : Burner, (refreshOven s).burner nn = s.burner nn) ∧
    (∀ hh : Heater, (refreshOven s).heaterOut hh = s.heaterOut hh) := by
  unfold refreshOven
  dsimp only
  simp

@[simp] theorem clearContext_frame (x : OvenContext) (s : State) :
    (clearContext x s).pins = s.pins ∧
    (clearContext x s).lnk = s.lnk ∧
    (clearContext x s).cfg = s.cfg ∧
    (clearContext x s).pst = s.pst ∧
    (clearContext x s).plr = s.plr ∧
    (clearContext x s).pfs = s.pfs ∧
    (clearContext x s).bsv = s.bsv ∧
    (clearContext x s).out = s.out ∧
    (clearContext x s).ntq = s.ntq ∧
    (clearContext x s).drawn = s.drawn ∧
    (clearContext x s).pending = s.pending ∧
    (∀ hh : Heater, (clearContext x s).install hh = s.install hh) ∧
    (∀ cc : Channel, (clearContext x s).chan cc = s.chan cc) ∧
    (∀ hh : Heater, (clearContext x s).heater hh = s.heater hh) ∧
    (∀ nn : Burner, (clearContext x s).burner nn = s.burner nn) ∧
    (∀ hh : Heater, (clearContext x s).heaterOut hh = s.heaterOut hh) := by
  unfold clearContext
  dsimp only
  simp

@[simp] theorem takeBake_frame (m : Mode) (t : Nat) (p : Bool) (s : State) :
    (takeBake m t p s).pins = s.pins ∧
    (takeBake m t p s).lnk = s.lnk ∧
    (takeBake m t p s).cfg = s.cfg ∧
    (takeBake m t p s).pst = s.pst ∧
    (takeBake m t p s).plr = s.plr ∧
    (takeBake m t p s).pfs = s.pfs ∧
    (takeBake m t p s).bsv = s.bsv ∧
    (takeBake m t p s).out = s.out ∧
    (takeBake m t p s).ntq = s.ntq ∧
    (takeBake m t p s).drawn = s.drawn ∧
    (takeBake m t p s).pending = s.pending ∧
    (∀ hh : Heater, (takeBake m t p s).install hh = s.install hh) ∧
    (∀ cc : Channel, (takeBake m t p s).chan cc = s.chan cc) ∧
    (∀ hh : Heater, (takeBake m t p s).heater hh = s.heater hh) ∧
    (∀ nn : Burner, (takeBake m t p s).burner nn = s.burner nn) ∧
    (∀ hh : Heater, (takeBake m t p s).heaterOut hh = s.heaterOut hh) := by
  unfold takeBake
  dsimp only
  repeat' split
  all_goals simp

@[simp] theorem syncOven_frame (s : State) :
    (syncOven s).pins = s.pins ∧
    (syncOven s).lnk = s.lnk ∧
    (syncOven s).cfg = s.cfg ∧
    (syncOven s).pst = s.pst ∧
    (syncOven s).plr = s.plr ∧
    (syncOven s).bsv = s.bsv ∧
    (syncOven s).ntq = s.ntq ∧
    (syncOven s).drawn = s.drawn ∧
    (syncOven s).pending = s.pending ∧
    (∀ hh : Heater, (syncOven s).install hh = s.install hh) ∧
    (∀ cc : Channel, (syncOven s).chan cc = s.chan cc) ∧
    (∀ nn : Burner, (syncOven s).burner nn = s.burner nn) := by
  unfold syncOven
  dsimp only
  repeat' split
  all_goals simp

@[simp] theorem overshootCut_frame (s : State) :
    (overshootCut s).pins = s.pins ∧
    (overshootCut s).lnk = s.lnk ∧
    (overshootCut s).cfg = s.cfg ∧
    (overshootCut s).pst = s.pst ∧
    (overshootCut s).plr = s.plr ∧
    (overshootCut s).bsv = s.bsv ∧
    (overshootCut s).ntq = s.ntq ∧
    (overshootCut s).drawn = s.drawn ∧
    (overshootCut s).pending = s.pending ∧
    (∀ hh : Heater, (overshootCut s).install hh = s.install hh) ∧
    (∀ cc : Channel, (overshootCut s).chan cc = s.chan cc) ∧
    (∀ nn : Burner, (overshootCut s).burner nn = s.burner nn) := by
  unfold overshootCut
  repeat' split
  all_goals simp

@[simp] theorem syncLevel_frame (c : Channel) (h : Heater) (s : State) :
    (syncLevel c h s).pins = s.pins ∧
    (syncLevel c h s).lnk = s.lnk ∧
    (syncLevel c h s).cfg = s.cfg ∧
    (syncLevel c h s).pst = s.pst ∧
    (syncLevel c h s).bsv = s.bsv ∧
    (syncLevel c h s).ntq = s.ntq ∧
    (syncLevel c h s).drawn = s.drawn ∧
    (syncLevel c h s).pending = s.pending ∧
    (∀ hh : Heater, (syncLevel c h s).install hh = s.install hh) ∧
    (∀ nn : Burner, (syncLevel c h s).burner nn = s.burner nn) := by
  unfold syncLevel
  dsimp only
  repeat' split
  all_goals simp

@[simp] theorem syncPermit_frame (c : Channel) (n : Burner) (s : State) :
    (syncPermit c n s).pins = s.pins ∧
    (syncPermit c n s).lnk = s.lnk ∧
    (syncPermit c n s).cfg = s.cfg ∧
    (syncPermit c n s).pst = s.pst ∧
    (syncPermit c n s).plr = s.plr ∧
    (syncPermit c n s).pfs = s.pfs ∧
    (syncPermit c n s).ovr = s.ovr ∧
    (syncPermit c n s).out = s.out ∧
    (syncPermit c n s).drawn = s.drawn ∧
    (syncPermit c n s).pending = s.pending ∧
    (∀ hh : Heater, (syncPermit c n s).install hh = s.install hh) ∧
    (∀ cc : Channel, (syncPermit c n s).chan cc = s.chan cc) ∧
    (∀ hh : Heater, (syncPermit c n s).heater hh = s.heater hh) ∧
    (∀ hh : Heater, (syncPermit c n s).heaterOut hh = s.heaterOut hh) := by
  unfold syncPermit
  repeat' split
  all_goals simp

@[simp] theorem sync_frame (c : Channel) (s : State) :
    (sync c s).pins = s.pins ∧
    (sync c s).lnk = s.lnk ∧
    (sync c s).cfg = s.cfg ∧
    (sync c s).pst = s.pst ∧
    (sync c s).drawn = s.drawn ∧
    (sync c s).pending = s.pending ∧
    (∀ hh : Heater, (sync c s).install hh = s.install hh) := by
  unfold sync
  repeat' split
  all_goals simp

@[simp] theorem markRecord_frame (c : Channel) (i : Nat) (m : Mark) (s : State) :
    (markRecord c i m s).pins = s.pins ∧
    (markRecord c i m s).lnk = s.lnk ∧
    (markRecord c i m s).cfg = s.cfg ∧
    (markRecord c i m s).pst = s.pst ∧
    (markRecord c i m s).pfs = s.pfs ∧
    (markRecord c i m s).ovr = s.ovr ∧
    (markRecord c i m s).bsv = s.bsv ∧
    (markRecord c i m s).out = s.out ∧
    (markRecord c i m s).ntq = s.ntq ∧
    (markRecord c i m s).drawn = s.drawn ∧
    (markRecord c i m s).pending = s.pending ∧
    (∀ hh : Heater, (markRecord c i m s).install hh = s.install hh) ∧
    (∀ hh : Heater, (markRecord c i m s).heater hh = s.heater hh) ∧
    (∀ nn : Burner, (markRecord c i m s).burner nn = s.burner nn) ∧
    (∀ hh : Heater, (markRecord c i m s).heaterOut hh = s.heaterOut hh) := by
  unfold markRecord
  simp

@[simp] theorem notifyStage_frame (c : Channel) (i : Nat) (e : EndCause) (s : State) :
    (notifyStage c i e s).pins = s.pins ∧
    (notifyStage c i e s).lnk = s.lnk ∧
    (notifyStage c i e s).cfg = s.cfg ∧
    (notifyStage c i e s).pst = s.pst ∧
    (notifyStage c i e s).plr = s.plr ∧
    (notifyStage c i e s).pfs = s.pfs ∧
    (notifyStage c i e s).ovr = s.ovr ∧
    (notifyStage c i e s).bsv = s.bsv ∧
    (notifyStage c i e s).out = s.out ∧
    (notifyStage c i e s).drawn = s.drawn ∧
    (notifyStage c i e s).pending = s.pending ∧
    (∀ hh : Heater, (notifyStage c i e s).install hh = s.install hh) ∧
    (∀ cc : Channel, (notifyStage c i e s).chan cc = s.chan cc) ∧
    (∀ hh : Heater, (notifyStage c i e s).heater hh = s.heater hh) ∧
    (∀ nn : Burner, (notifyStage c i e s).burner nn = s.burner nn) ∧
    (∀ hh : Heater, (notifyStage c i e s).heaterOut hh = s.heaterOut hh) := by
  unfold notifyStage
  repeat' split
  all_goals simp

@[simp] theorem setLastEnd_frame (c : Channel) (e : EndCause) (s : State) :
    (setLastEnd c e s).pins = s.pins ∧
    (setLastEnd c e s).lnk = s.lnk ∧
    (setLastEnd c e s).cfg = s.cfg ∧
    (setLastEnd c e s).pst = s.pst ∧
    (setLastEnd c e s).pfs = s.pfs ∧
    (setLastEnd c e s).ovr = s.ovr ∧
    (setLastEnd c e s).bsv = s.bsv ∧
    (setLastEnd c e s).out = s.out ∧
    (setLastEnd c e s).ntq = s.ntq ∧
    (setLastEnd c e s).drawn = s.drawn ∧
    (setLastEnd c e s).pending = s.pending ∧
    (∀ hh : Heater, (setLastEnd c e s).install hh = s.install hh) ∧
    (∀ hh : Heater, (setLastEnd c e s).heater hh = s.heater hh) ∧
    (∀ nn : Burner, (setLastEnd c e s).burner nn = s.burner nn) ∧
    (∀ hh : Heater, (setLastEnd c e s).heaterOut hh = s.heaterOut hh) := by
  unfold setLastEnd
  dsimp only
  simp

@[simp] theorem endStage_frame (c : Channel) (i : Nat) (e : EndCause) (s : State) :
    (endStage c i e s).pins = s.pins ∧
    (endStage c i e s).lnk = s.lnk ∧
    (endStage c i e s).cfg = s.cfg ∧
    (endStage c i e s).pst = s.pst ∧
    (endStage c i e s).pfs = s.pfs ∧
    (endStage c i e s).ovr = s.ovr ∧
    (endStage c i e s).bsv = s.bsv ∧
    (endStage c i e s).out = s.out ∧
    (endStage c i e s).drawn = s.drawn ∧
    (endStage c i e s).pending = s.pending ∧
    (∀ hh : Heater, (endStage c i e s).install hh = s.install hh) ∧
    (∀ hh : Heater, (endStage c i e s).heater hh = s.heater hh) ∧
    (∀ nn : Burner, (endStage c i e s).burner nn = s.burner nn) ∧
    (∀ hh : Heater, (endStage c i e s).heaterOut hh = s.heaterOut hh) := by
  unfold endStage
  simp

@[simp] theorem flushStage_frame (c : Channel) (i : Nat) (s : State) :
    (flushStage c i s).pins = s.pins ∧
    (flushStage c i s).lnk = s.lnk ∧
    (flushStage c i s).cfg = s.cfg ∧
    (flushStage c i s).pst = s.pst ∧
    (flushStage c i s).pfs = s.pfs ∧
    (flushStage c i s).ovr = s.ovr ∧
    (flushStage c i s).bsv = s.bsv ∧
    (flushStage c i s).out = s.out ∧
    (flushStage c i s).drawn = s.drawn ∧
    (flushStage c i s).pending = s.pending ∧
    (∀ hh : Heater, (flushStage c i s).install hh = s.install hh) ∧
    (∀ hh : Heater, (flushStage c i s).heater hh = s.heater hh) ∧
    (∀ nn : Burner, (flushStage c i s).burner nn = s.burner nn) ∧
    (∀ hh : Heater, (flushStage c i s).heaterOut hh = s.heaterOut hh) := by
  unfold flushStage
  simp

@[simp] theorem finishPlan_frame (c : Channel) (x : PlanEnd) (d : Nat) (s : State) :
    (finishPlan c x d s).pins = s.pins ∧
    (finishPlan c x d s).lnk = s.lnk ∧
    (finishPlan c x d s).cfg = s.cfg ∧
    (finishPlan c x d s).pst = s.pst ∧
    (finishPlan c x d s).pfs = s.pfs ∧
    (finishPlan c x d s).ovr = s.ovr ∧
    (finishPlan c x d s).bsv = s.bsv ∧
    (finishPlan c x d s).out = s.out ∧
    (finishPlan c x d s).drawn = s.drawn ∧
    (finishPlan c x d s).pending = s.pending ∧
    (∀ hh : Heater, (finishPlan c x d s).install hh = s.install hh) ∧
    (∀ hh : Heater, (finishPlan c x d s).heater hh = s.heater hh) ∧
    (∀ nn : Burner, (finishPlan c x d s).burner nn = s.burner nn) ∧
    (∀ hh : Heater, (finishPlan c x d s).heaterOut hh = s.heaterOut hh) := by
  unfold finishPlan
  dsimp only
  simp

@[simp] theorem completePlan_frame (c : Channel) (s : State) :
    (completePlan c s).pins = s.pins ∧
    (completePlan c s).lnk = s.lnk ∧
    (completePlan c s).cfg = s.cfg ∧
    (completePlan c s).pst = s.pst ∧
    (completePlan c s).pfs = s.pfs ∧
    (completePlan c s).ovr = s.ovr ∧
    (completePlan c s).bsv = s.bsv ∧
    (completePlan c s).out = s.out ∧
    (completePlan c s).drawn = s.drawn ∧
    (completePlan c s).pending = s.pending ∧
    (∀ hh : Heater, (completePlan c s).install hh = s.install hh) ∧
    (∀ hh : Heater, (completePlan c s).heater hh = s.heater hh) ∧
    (∀ nn : Burner, (completePlan c s).burner nn = s.burner nn) ∧
    (∀ hh : Heater, (completePlan c s).heaterOut hh = s.heaterOut hh) := by
  unfold completePlan
  simp

@[simp] theorem haltChannel_frame (c : Channel) (x : HaltCause) (s : State) :
    (haltChannel c x s).pins = s.pins ∧
    (haltChannel c x s).lnk = s.lnk ∧
    (haltChannel c x s).cfg = s.cfg ∧
    (haltChannel c x s).pst = s.pst ∧
    (haltChannel c x s).pfs = s.pfs ∧
    (haltChannel c x s).ovr = s.ovr ∧
    (haltChannel c x s).bsv = s.bsv ∧
    (haltChannel c x s).out = s.out ∧
    (haltChannel c x s).drawn = s.drawn ∧
    (haltChannel c x s).pending = s.pending ∧
    (∀ hh : Heater, (haltChannel c x s).install hh = s.install hh) ∧
    (∀ hh : Heater, (haltChannel c x s).heater hh = s.heater hh) ∧
    (∀ nn : Burner, (haltChannel c x s).burner nn = s.burner nn) ∧
    (∀ hh : Heater, (haltChannel c x s).heaterOut hh = s.heaterOut hh) := by
  unfold haltChannel
  dsimp only
  simp

@[simp] theorem enterRecord_frame (c : Channel) (i : Nat) (p : PoolRecord) (s : State) :
    (enterRecord c i p s).pins = s.pins ∧
    (enterRecord c i p s).lnk = s.lnk ∧
    (enterRecord c i p s).cfg = s.cfg ∧
    (enterRecord c i p s).pst = s.pst ∧
    (enterRecord c i p s).pfs = s.pfs ∧
    (enterRecord c i p s).ovr = s.ovr ∧
    (enterRecord c i p s).bsv = s.bsv ∧
    (enterRecord c i p s).out = s.out ∧
    (enterRecord c i p s).ntq = s.ntq ∧
    (enterRecord c i p s).drawn = s.drawn ∧
    (enterRecord c i p s).pending = s.pending ∧
    (∀ hh : Heater, (enterRecord c i p s).install hh = s.install hh) ∧
    (∀ hh : Heater, (enterRecord c i p s).heater hh = s.heater hh) ∧
    (∀ nn : Burner, (enterRecord c i p s).burner nn = s.burner nn) ∧
    (∀ hh : Heater, (enterRecord c i p s).heaterOut hh = s.heaterOut hh) := by
  unfold enterRecord
  dsimp only
  repeat' split
  all_goals simp

@[simp] theorem findTarget_frame (s : State) :
    (findTarget s).pins = s.pins ∧
    (findTarget s).lnk = s.lnk ∧
    (findTarget s).cfg = s.cfg ∧
    (findTarget s).pst = s.pst ∧
    (findTarget s).pfs = s.pfs ∧
    (findTarget s).bsv = s.bsv ∧
    (findTarget s).out = s.out ∧
    (findTarget s).drawn = s.drawn ∧
    (findTarget s).pending = s.pending ∧
    (∀ hh : Heater, (findTarget s).install hh = s.install hh) ∧
    (∀ hh : Heater, (findTarget s).heater hh = s.heater hh) ∧
    (∀ nn : Burner, (findTarget s).burner nn = s.burner nn) ∧
    (∀ hh : Heater, (findTarget s).heaterOut hh = s.heaterOut hh) := by
  unfold findTarget
  dsimp only
  repeat' split
  all_goals simp

@[simp] theorem enterFrom_frame (c : Channel) (fuel i : Nat) (s : State) :
    (enterFrom c fuel i s).pins = s.pins ∧
    (enterFrom c fuel i s).lnk = s.lnk ∧
    (enterFrom c fuel i s).cfg = s.cfg ∧
    (enterFrom c fuel i s).pst = s.pst ∧
    (enterFrom c fuel i s).pfs = s.pfs ∧
    (enterFrom c fuel i s).bsv = s.bsv ∧
    (enterFrom c fuel i s).out = s.out ∧
    (enterFrom c fuel i s).drawn = s.drawn ∧
    (enterFrom c fuel i s).pending = s.pending ∧
    (∀ hh : Heater, (enterFrom c fuel i s).install hh = s.install hh) ∧
    (∀ hh : Heater, (enterFrom c fuel i s).heater hh = s.heater hh) ∧
    (∀ nn : Burner, (enterFrom c fuel i s).burner nn = s.burner nn) ∧
    (∀ hh : Heater, (enterFrom c fuel i s).heaterOut hh = s.heaterOut hh) := by
  induction fuel generalizing i s with
  | zero => simp [enterFrom]
  | succ k ih =>
    unfold enterFrom
    dsimp only
    repeat' split
    all_goals simp [ih]

@[simp] theorem enterStage_frame (c : Channel) (i : Nat) (s : State) :
    (enterStage c i s).pins = s.pins ∧
    (enterStage c i s).lnk = s.lnk ∧
    (enterStage c i s).cfg = s.cfg ∧
    (enterStage c i s).pst = s.pst ∧
    (enterStage c i s).pfs = s.pfs ∧
    (enterStage c i s).bsv = s.bsv ∧
    (enterStage c i s).out = s.out ∧
    (enterStage c i s).drawn = s.drawn ∧
    (enterStage c i s).pending = s.pending ∧
    (∀ hh : Heater, (enterStage c i s).install hh = s.install hh) ∧
    (∀ hh : Heater, (enterStage c i s).heater hh = s.heater hh) ∧
    (∀ nn : Burner, (enterStage c i s).burner nn = s.burner nn) ∧
    (∀ hh : Heater, (enterStage c i s).heaterOut hh = s.heaterOut hh) := by
  unfold enterStage
  simp

@[simp] theorem endCurrent_frame (c : Channel) (e : EndCause) (s : State) :
    (endCurrent c e s).pins = s.pins ∧
    (endCurrent c e s).lnk = s.lnk ∧
    (endCurrent c e s).cfg = s.cfg ∧
    (endCurrent c e s).pst = s.pst ∧
    (endCurrent c e s).pfs = s.pfs ∧
    (endCurrent c e s).bsv = s.bsv ∧
    (endCurrent c e s).out = s.out ∧
    (endCurrent c e s).drawn = s.drawn ∧
    (endCurrent c e s).pending = s.pending ∧
    (∀ hh : Heater, (endCurrent c e s).install hh = s.install hh) ∧
    (∀ hh : Heater, (endCurrent c e s).heater hh = s.heater hh) ∧
    (∀ nn : Burner, (endCurrent c e s).burner nn = s.burner nn) ∧
    (∀ hh : Heater, (endCurrent c e s).heaterOut hh = s.heaterOut hh) := by
  unfold endCurrent
  dsimp only
  simp

@[simp] theorem targetCheck_frame (s : State) :
    (targetCheck s).pins = s.pins ∧
    (targetCheck s).lnk = s.lnk ∧
    (targetCheck s).cfg = s.cfg ∧
    (targetCheck s).pst = s.pst ∧
    (targetCheck s).drawn = s.drawn ∧
    (targetCheck s).pending = s.pending ∧
    (∀ hh : Heater, (targetCheck s).install hh = s.install hh) := by
  unfold targetCheck
  dsimp only
  repeat' split
  all_goals simp

@[simp] theorem pauseChannel_frame (c : Channel) (s : State) :
    (pauseChannel c s).pins = s.pins ∧
    (pauseChannel c s).lnk = s.lnk ∧
    (pauseChannel c s).cfg = s.cfg ∧
    (pauseChannel c s).pst = s.pst ∧
    (pauseChannel c s).drawn = s.drawn ∧
    (pauseChannel c s).pending = s.pending ∧
    (∀ hh : Heater, (pauseChannel c s).install hh = s.install hh) := by
  unfold pauseChannel
  dsimp only
  simp

@[simp] theorem emptyRecord_frame (c : Channel) (s : State) :
    (emptyRecord c s).pins = s.pins ∧
    (emptyRecord c s).lnk = s.lnk ∧
    (emptyRecord c s).cfg = s.cfg ∧
    (emptyRecord c s).pfs = s.pfs ∧
    (emptyRecord c s).ovr = s.ovr ∧
    (emptyRecord c s).bsv = s.bsv ∧
    (emptyRecord c s).out = s.out ∧
    (emptyRecord c s).ntq = s.ntq ∧
    (emptyRecord c s).drawn = s.drawn ∧
    (emptyRecord c s).pending = s.pending ∧
    (∀ hh : Heater, (emptyRecord c s).install hh = s.install hh) ∧
    (∀ hh : Heater, (emptyRecord c s).heater hh = s.heater hh) ∧
    (∀ nn : Burner, (emptyRecord c s).burner nn = s.burner nn) ∧
    (∀ hh : Heater, (emptyRecord c s).heaterOut hh = s.heaterOut hh) := by
  unfold emptyRecord
  dsimp only
  simp

@[simp] theorem emptyChannel_frame (c : Channel) (s : State) :
    (emptyChannel c s).pins = s.pins ∧
    (emptyChannel c s).lnk = s.lnk ∧
    (emptyChannel c s).cfg = s.cfg ∧
    (emptyChannel c s).drawn = s.drawn ∧
    (emptyChannel c s).pending = s.pending ∧
    (∀ hh : Heater, (emptyChannel c s).install hh = s.install hh) := by
  unfold emptyChannel
  simp

@[simp] theorem reportFault_frame (c : Channel) (x : HaltCause) (s : State) :
    (reportFault c x s).pins = s.pins ∧
    (reportFault c x s).lnk = s.lnk ∧
    (reportFault c x s).cfg = s.cfg ∧
    (reportFault c x s).pst = s.pst ∧
    (reportFault c x s).drawn = s.drawn ∧
    (reportFault c x s).pending = s.pending ∧
    (∀ hh : Heater, (reportFault c x s).install hh = s.install hh) := by
  unfold reportFault
  repeat' split
  all_goals simp

@[simp] theorem expirePause_frame (c : Channel) (s : State) :
    (expirePause c s).pins = s.pins ∧
    (expirePause c s).lnk = s.lnk ∧
    (expirePause c s).cfg = s.cfg ∧
    (expirePause c s).pst = s.pst ∧
    (expirePause c s).drawn = s.drawn ∧
    (expirePause c s).pending = s.pending ∧
    (∀ hh : Heater, (expirePause c s).install hh = s.install hh) := by
  unfold expirePause
  dsimp only
  simp

@[simp] theorem advanceSegment_frame (c : Channel) (n : Nat) (s : State) :
    (advanceSegment c n s).pins = s.pins ∧
    (advanceSegment c n s).lnk = s.lnk ∧
    (advanceSegment c n s).cfg = s.cfg ∧
    (advanceSegment c n s).pst = s.pst ∧
    (advanceSegment c n s).drawn = s.drawn ∧
    (advanceSegment c n s).pending = s.pending ∧
    (∀ hh : Heater, (advanceSegment c n s).install hh = s.install hh) := by
  unfold advanceSegment
  dsimp only
  repeat' split
  all_goals simp

@[simp] theorem channelTick_frame (c : Channel) (s : State) :
    (channelTick c s).pins = s.pins ∧
    (channelTick c s).lnk = s.lnk ∧
    (channelTick c s).cfg = s.cfg ∧
    (channelTick c s).pst = s.pst ∧
    (channelTick c s).drawn = s.drawn ∧
    (channelTick c s).pending = s.pending ∧
    (∀ hh : Heater, (channelTick c s).install hh = s.install hh) := by
  unfold channelTick
  dsimp only
  repeat' split
  all_goals simp

@[simp] theorem boostSwitch_frame (s : State) :
    (boostSwitch s).pins = s.pins ∧
    (boostSwitch s).lnk = s.lnk ∧
    (boostSwitch s).cfg = s.cfg ∧
    (boostSwitch s).pst = s.pst ∧
    (boostSwitch s).drawn = s.drawn ∧
    (boostSwitch s).pending = s.pending ∧
    (∀ hh : Heater, (boostSwitch s).install hh = s.install hh) := by
  unfold boostSwitch
  dsimp only
  repeat' split
  all_goals simp

@[simp] theorem frameDemand_frame (h : OvenHeater) (d : Nat) (s : State) :
    (frameDemand h d s).pins = s.pins ∧
    (frameDemand h d s).lnk = s.lnk ∧
    (frameDemand h d s).cfg = s.cfg ∧
    (frameDemand h d s).pst = s.pst ∧
    (frameDemand h d s).plr = s.plr ∧
    (frameDemand h d s).bsv = s.bsv ∧
    (frameDemand h d s).out = s.out ∧
    (frameDemand h d s).ntq = s.ntq ∧
    (frameDemand h d s).drawn = s.drawn ∧
    (frameDemand h d s).pending = s.pending ∧
    (∀ hh : Heater, (frameDemand h d s).install hh = s.install hh) ∧
    (∀ cc : Channel, (frameDemand h d s).chan cc = s.chan cc) ∧
    (∀ nn : Burner, (frameDemand h d s).burner nn = s.burner nn) ∧
    (∀ hh : Heater, (frameDemand h d s).heaterOut hh = s.heaterOut hh) := by
  unfold frameDemand
  dsimp only
  repeat' split
  all_goals simp

@[simp] theorem frameOven_frame (s : State) :
    (frameOven s).pins = s.pins ∧
    (frameOven s).lnk = s.lnk ∧
    (frameOven s).cfg = s.cfg ∧
    (frameOven s).pst = s.pst ∧
    (frameOven s).drawn = s.drawn ∧
    (frameOven s).pending = s.pending ∧
    (∀ hh : Heater, (frameOven s).install hh = s.install hh) := by
  have h_pins : (frameOven s).pins = s.pins := by
    unfold frameOven
    simp [foldl_keeps (g := State.pins)]
  have h_lnk : (frameOven s).lnk = s.lnk := by
    unfold frameOven
    simp [foldl_keeps (g := State.lnk)]
  have h_cfg : (frameOven s).cfg = s.cfg := by
    unfold frameOven
    simp [foldl_keeps (g := State.cfg)]
  have h_pst : (frameOven s).pst = s.pst := by
    unfold frameOven
    simp [foldl_keeps (g := State.pst)]
  have h_drawn : (frameOven s).drawn = s.drawn := by
    unfold frameOven
    simp [foldl_keeps (g := State.drawn)]
  have h_pending : (frameOven s).pending = s.pending := by
    unfold frameOven
    simp [foldl_keeps (g := State.pending)]
  exact ⟨h_pins, h_lnk, h_cfg, h_pst, h_drawn, h_pending, fun _ => by simp only [State.install, h_cfg]⟩

@[simp] theorem frameEvent_frame (s : State) :
    (frameEvent s).pins = s.pins ∧
    (frameEvent s).lnk = s.lnk ∧
    (frameEvent s).cfg = s.cfg ∧
    (frameEvent s).pst = s.pst ∧
    (frameEvent s).drawn = s.drawn ∧
    (frameEvent s).pending = s.pending ∧
    (∀ hh : Heater, (frameEvent s).install hh = s.install hh) := by
  unfold frameEvent
  simp

@[simp] theorem slotEvent_frame (s : State) :
    (slotEvent s).pins = s.pins ∧
    (slotEvent s).lnk = s.lnk ∧
    (slotEvent s).cfg = s.cfg ∧
    (slotEvent s).pst = s.pst ∧
    (slotEvent s).plr = s.plr ∧
    (slotEvent s).bsv = s.bsv ∧
    (slotEvent s).ntq = s.ntq ∧
    (slotEvent s).drawn = s.drawn ∧
    (slotEvent s).pending = s.pending ∧
    (∀ hh : Heater, (slotEvent s).install hh = s.install hh) ∧
    (∀ cc : Channel, (slotEvent s).chan cc = s.chan cc) ∧
    (∀ nn : Burner, (slotEvent s).burner nn = s.burner nn) := by
  unfold slotEvent
  dsimp only
  simp

@[simp] theorem closeLoad_frame (s : State) :
    (closeLoad s).pins = s.pins ∧
    (closeLoad s).lnk = s.lnk ∧
    (closeLoad s).cfg = s.cfg ∧
    (closeLoad s).plr = s.plr ∧
    (closeLoad s).pfs = s.pfs ∧
    (closeLoad s).ovr = s.ovr ∧
    (closeLoad s).bsv = s.bsv ∧
    (closeLoad s).out = s.out ∧
    (closeLoad s).ntq = s.ntq ∧
    (closeLoad s).drawn = s.drawn ∧
    (closeLoad s).pending = s.pending ∧
    (∀ hh : Heater, (closeLoad s).install hh = s.install hh) ∧
    (∀ cc : Channel, (closeLoad s).chan cc = s.chan cc) ∧
    (∀ hh : Heater, (closeLoad s).heater hh = s.heater hh) ∧
    (∀ nn : Burner, (closeLoad s).burner nn = s.burner nn) ∧
    (∀ hh : Heater, (closeLoad s).heaterOut hh = s.heaterOut hh) := by
  unfold closeLoad
  dsimp only
  simp

@[simp] theorem runFromStart_frame (c : Channel) (s : State) :
    (runFromStart c s).pins = s.pins ∧
    (runFromStart c s).lnk = s.lnk ∧
    (runFromStart c s).cfg = s.cfg ∧
    (runFromStart c s).pst = s.pst ∧
    (runFromStart c s).drawn = s.drawn ∧
    (runFromStart c s).pending = s.pending ∧
    (∀ hh : Heater, (runFromStart c s).install hh = s.install hh) := by
  unfold runFromStart
  dsimp only
  simp

@[simp] theorem resumeChannel_frame (c : Channel) (s : State) :
    (resumeChannel c s).pins = s.pins ∧
    (resumeChannel c s).lnk = s.lnk ∧
    (resumeChannel c s).cfg = s.cfg ∧
    (resumeChannel c s).pst = s.pst ∧
    (resumeChannel c s).drawn = s.drawn ∧
    (resumeChannel c s).pending = s.pending ∧
    (∀ hh : Heater, (resumeChannel c s).install hh = s.install hh) := by
  unfold resumeChannel
  dsimp only
  repeat' split
  all_goals simp

@[simp] theorem stopEverything_frame (s : State) :
    (stopEverything s).pins = s.pins ∧
    (stopEverything s).lnk = s.lnk ∧
    (stopEverything s).cfg = s.cfg ∧
    (stopEverything s).drawn = s.drawn ∧
    (stopEverything s).pending = s.pending ∧
    (∀ hh : Heater, (stopEverything s).install hh = s.install hh) := by
  have h_pins : (stopEverything s).pins = s.pins := by
    unfold stopEverything
    simp [foldl_keeps (g := State.pins)]
  have h_lnk : (stopEverything s).lnk = s.lnk := by
    unfold stopEverything
    simp [foldl_keeps (g := State.lnk)]
  have h_cfg : (stopEverything s).cfg = s.cfg := by
    unfold stopEverything
    simp [foldl_keeps (g := State.cfg)]
  have h_drawn : (stopEverything s).drawn = s.drawn := by
    unfold stopEverything
    simp [foldl_keeps (g := State.drawn)]
  have h_pending : (stopEverything s).pending = s.pending := by
    unfold stopEverything
    simp [foldl_keeps (g := State.pending)]
  exact ⟨h_pins, h_lnk, h_cfg, h_drawn, h_pending, fun _ => by simp only [State.install, h_cfg]⟩

@[simp] theorem changeCurrent_frame (c : Channel) (f : StageSpec → StageSpec) (s : State) :
    (changeCurrent c f s).pins = s.pins ∧
    (changeCurrent c f s).lnk = s.lnk ∧
    (changeCurrent c f s).cfg = s.cfg ∧
    (changeCurrent c f s).pst = s.pst ∧
    (changeCurrent c f s).pfs = s.pfs ∧
    (changeCurrent c f s).ovr = s.ovr ∧
    (changeCurrent c f s).bsv = s.bsv ∧
    (changeCurrent c f s).out = s.out ∧
    (changeCurrent c f s).ntq = s.ntq ∧
    (changeCurrent c f s).drawn = s.drawn ∧
    (changeCurrent c f s).pending = s.pending ∧
    (∀ hh : Heater, (changeCurrent c f s).install hh = s.install hh) ∧
    (∀ hh : Heater, (changeCurrent c f s).heater hh = s.heater hh) ∧
    (∀ nn : Burner, (changeCurrent c f s).burner nn = s.burner nn) ∧
    (∀ hh : Heater, (changeCurrent c f s).heaterOut hh = s.heaterOut hh) := by
  unfold changeCurrent
  simp

@[simp] theorem addTime_frame (c : Channel) (r : Nat) (e : Int) (s : State) :
    (addTime c r e s).pins = s.pins ∧
    (addTime c r e s).lnk = s.lnk ∧
    (addTime c r e s).cfg = s.cfg ∧
    (addTime c r e s).pst = s.pst ∧
    (addTime c r e s).pfs = s.pfs ∧
    (addTime c r e s).ovr = s.ovr ∧
    (addTime c r e s).bsv = s.bsv ∧
    (addTime c r e s).out = s.out ∧
    (addTime c r e s).ntq = s.ntq ∧
    (addTime c r e s).drawn = s.drawn ∧
    (addTime c r e s).pending = s.pending ∧
    (∀ hh : Heater, (addTime c r e s).install hh = s.install hh) ∧
    (∀ hh : Heater, (addTime c r e s).heater hh = s.heater hh) ∧
    (∀ nn : Burner, (addTime c r e s).burner nn = s.burner nn) ∧
    (∀ hh : Heater, (addTime c r e s).heaterOut hh = s.heaterOut hh) := by
  unfold addTime
  dsimp only
  simp

@[simp] theorem setLevel_frame (c : Channel) (n : Nat) (s : State) :
    (setLevel c n s).pins = s.pins ∧
    (setLevel c n s).lnk = s.lnk ∧
    (setLevel c n s).cfg = s.cfg ∧
    (setLevel c n s).pst = s.pst ∧
    (setLevel c n s).drawn = s.drawn ∧
    (setLevel c n s).pending = s.pending ∧
    (∀ hh : Heater, (setLevel c n s).install hh = s.install hh) := by
  unfold setLevel
  simp

@[simp] theorem setSetpoint_frame (m : Mode) (t : Nat) (s : State) :
    (setSetpoint m t s).pins = s.pins ∧
    (setSetpoint m t s).lnk = s.lnk ∧
    (setSetpoint m t s).cfg = s.cfg ∧
    (setSetpoint m t s).pst = s.pst ∧
    (setSetpoint m t s).drawn = s.drawn ∧
    (setSetpoint m t s).pending = s.pending ∧
    (∀ hh : Heater, (setSetpoint m t s).install hh = s.install hh) := by
  unfold setSetpoint
  dsimp only
  repeat' split
  all_goals simp

@[simp] theorem quickPlan_frame (c : Channel) (n : Nat) (s : State) :
    (quickPlan c n s).pins = s.pins ∧
    (quickPlan c n s).lnk = s.lnk ∧
    (quickPlan c n s).cfg = s.cfg ∧
    (quickPlan c n s).drawn = s.drawn ∧
    (quickPlan c n s).pending = s.pending ∧
    (∀ hh : Heater, (quickPlan c n s).install hh = s.install hh) := by
  unfold quickPlan
  dsimp only
  simp

@[simp] theorem takeNotices_frame (n : Nat) (s : State) :
    (takeNotices n s).pins = s.pins ∧
    (takeNotices n s).lnk = s.lnk ∧
    (takeNotices n s).cfg = s.cfg ∧
    (takeNotices n s).pst = s.pst ∧
    (takeNotices n s).plr = s.plr ∧
    (takeNotices n s).pfs = s.pfs ∧
    (takeNotices n s).ovr = s.ovr ∧
    (takeNotices n s).bsv = s.bsv ∧
    (takeNotices n s).out = s.out ∧
    (takeNotices n s).drawn = s.drawn ∧
    (takeNotices n s).pending = s.pending ∧
    (∀ hh : Heater, (takeNotices n s).install hh = s.install hh) ∧
    (∀ cc : Channel, (takeNotices n s).chan cc = s.chan cc) ∧
    (∀ hh : Heater, (takeNotices n s).heater hh = s.heater hh) ∧
    (∀ nn : Burner, (takeNotices n s).burner nn = s.burner nn) ∧
    (∀ hh : Heater, (takeNotices n s).heaterOut hh = s.heaterOut hh) := by
  unfold takeNotices
  dsimp only
  repeat' split
  all_goals simp

@[simp] theorem linkPause_frame (c : Channel) (s : State) :
    (linkPause c s).pins = s.pins ∧
    (linkPause c s).lnk = s.lnk ∧
    (linkPause c s).cfg = s.cfg ∧
    (linkPause c s).pst = s.pst ∧
    (linkPause c s).drawn = s.drawn ∧
    (linkPause c s).pending = s.pending ∧
    (∀ hh : Heater, (linkPause c s).install hh = s.install hh) := by
  unfold linkPause
  repeat' split
  all_goals simp

@[simp] theorem loseLink_frame (s : State) :
    (loseLink s).pins = s.pins ∧
    (loseLink s).cfg = s.cfg ∧
    (loseLink s).pst = s.pst ∧
    (loseLink s).drawn = s.drawn ∧
    (loseLink s).pending = s.pending ∧
    (∀ hh : Heater, (loseLink s).install hh = s.install hh) := by
  unfold loseLink
  dsimp only
  simp

@[simp] theorem findFailed_frame (h : Heater) (s : State) :
    (findFailed h s).pins = s.pins ∧
    (findFailed h s).lnk = s.lnk ∧
    (findFailed h s).cfg = s.cfg ∧
    (findFailed h s).pst = s.pst ∧
    (findFailed h s).drawn = s.drawn ∧
    (findFailed h s).pending = s.pending ∧
    (∀ hh : Heater, (findFailed h s).install hh = s.install hh) := by
  unfold findFailed
  dsimp only
  repeat' split
  all_goals simp

@[simp] theorem markWelded_frame (d : Nat) (h : Heater) (s : State) :
    (markWelded d h s).pins = s.pins ∧
    (markWelded d h s).lnk = s.lnk ∧
    (markWelded d h s).cfg = s.cfg ∧
    (markWelded d h s).pst = s.pst ∧
    (markWelded d h s).plr = s.plr ∧
    (markWelded d h s).pfs = s.pfs ∧
    (markWelded d h s).ovr = s.ovr ∧
    (markWelded d h s).bsv = s.bsv ∧
    (markWelded d h s).drawn = s.drawn ∧
    (markWelded d h s).pending = s.pending ∧
    (∀ hh : Heater, (markWelded d h s).install hh = s.install hh) ∧
    (∀ cc : Channel, (markWelded d h s).chan cc = s.chan cc) ∧
    (∀ hh : Heater, (markWelded d h s).heater hh = s.heater hh) ∧
    (∀ nn : Burner, (markWelded d h s).burner nn = s.burner nn) := by
  unfold markWelded
  dsimp only
  simp

@[simp] theorem holdSupply_frame (s : State) :
    (holdSupply s).pins = s.pins ∧
    (holdSupply s).lnk = s.lnk ∧
    (holdSupply s).cfg = s.cfg ∧
    (holdSupply s).pst = s.pst ∧
    (holdSupply s).plr = s.plr ∧
    (holdSupply s).bsv = s.bsv ∧
    (holdSupply s).ntq = s.ntq ∧
    (holdSupply s).drawn = s.drawn ∧
    (holdSupply s).pending = s.pending ∧
    (∀ hh : Heater, (holdSupply s).install hh = s.install hh) ∧
    (∀ cc : Channel, (holdSupply s).chan cc = s.chan cc) ∧
    (∀ nn : Burner, (holdSupply s).burner nn = s.burner nn) := by
  have h_pins : (holdSupply s).pins = s.pins := by
    unfold holdSupply
    simp [foldl_keeps (g := State.pins)]
  have h_lnk : (holdSupply s).lnk = s.lnk := by
    unfold holdSupply
    simp [foldl_keeps (g := State.lnk)]
  have h_cfg : (holdSupply s).cfg = s.cfg := by
    unfold holdSupply
    simp [foldl_keeps (g := State.cfg)]
  have h_pst : (holdSupply s).pst = s.pst := by
    unfold holdSupply
    simp [foldl_keeps (g := State.pst)]
  have h_plr : (holdSupply s).plr = s.plr := by
    unfold holdSupply
    simp [foldl_keeps (g := State.plr)]
  have h_bsv : (holdSupply s).bsv = s.bsv := by
    unfold holdSupply
    simp [foldl_keeps (g := State.bsv)]
  have h_ntq : (holdSupply s).ntq = s.ntq := by
    unfold holdSupply
    simp [foldl_keeps (g := State.ntq)]
  have h_drawn : (holdSupply s).drawn = s.drawn := by
    unfold holdSupply
    simp [foldl_keeps (g := State.drawn)]
  have h_pending : (holdSupply s).pending = s.pending := by
    unfold holdSupply
    simp [foldl_keeps (g := State.pending)]
  exact ⟨h_pins, h_lnk, h_cfg, h_pst, h_plr, h_bsv, h_ntq, h_drawn, h_pending, fun _ => by simp only [State.install, h_cfg], fun _ => by simp only [State.chan, h_plr], fun _ => by simp only [State.burner, h_bsv]⟩

@[simp] theorem findWelded_frame (h : Heater) (also : List Heater) (s : State) :
    (findWelded h also s).pins = s.pins ∧
    (findWelded h also s).lnk = s.lnk ∧
    (findWelded h also s).cfg = s.cfg ∧
    (findWelded h also s).pst = s.pst ∧
    (findWelded h also s).drawn = s.drawn ∧
    (findWelded h also s).pending = s.pending ∧
    (∀ hh : Heater, (findWelded h also s).install hh = s.install hh) := by
  have h_pins : (findWelded h also s).pins = s.pins := by
    unfold findWelded
    simp [foldl_keeps (g := State.pins)]
  have h_lnk : (findWelded h also s).lnk = s.lnk := by
    unfold findWelded
    simp [foldl_keeps (g := State.lnk)]
  have h_cfg : (findWelded h also s).cfg = s.cfg := by
    unfold findWelded
    simp [foldl_keeps (g := State.cfg)]
  have h_pst : (findWelded h also s).pst = s.pst := by
    unfold findWelded
    simp [foldl_keeps (g := State.pst)]
  have h_drawn : (findWelded h also s).drawn = s.drawn := by
    unfold findWelded
    simp [foldl_keeps (g := State.drawn)]
  have h_pending : (findWelded h also s).pending = s.pending := by
    unfold findWelded
    simp [foldl_keeps (g := State.pending)]
  exact ⟨h_pins, h_lnk, h_cfg, h_pst, h_drawn, h_pending, fun _ => by simp only [State.install, h_cfg]⟩

@[simp] theorem lockFrame_frame (s : State) :
    (lockFrame s).pins = s.pins ∧
    (lockFrame s).lnk = s.lnk ∧
    (lockFrame s).cfg = s.cfg ∧
    (lockFrame s).pst = s.pst ∧
    (lockFrame s).plr = s.plr ∧
    (lockFrame s).ovr = s.ovr ∧
    (lockFrame s).bsv = s.bsv ∧
    (lockFrame s).out = s.out ∧
    (lockFrame s).ntq = s.ntq ∧
    (lockFrame s).drawn = s.drawn ∧
    (lockFrame s).pending = s.pending ∧
    (∀ hh : Heater, (lockFrame s).install hh = s.install hh) ∧
    (∀ cc : Channel, (lockFrame s).chan cc = s.chan cc) ∧
    (∀ nn : Burner, (lockFrame s).burner nn = s.burner nn) ∧
    (∀ hh : Heater, (lockFrame s).heaterOut hh = s.heaterOut hh) := by
  unfold lockFrame
  dsimp only
  simp

@[simp] theorem lockOven_frame (s : State) :
    (lockOven s).pins = s.pins ∧
    (lockOven s).lnk = s.lnk ∧
    (lockOven s).cfg = s.cfg ∧
    (lockOven s).pst = s.pst ∧
    (lockOven s).plr = s.plr ∧
    (lockOven s).pfs = s.pfs ∧
    (lockOven s).bsv = s.bsv ∧
    (lockOven s).out = s.out ∧
    (lockOven s).ntq = s.ntq ∧
    (lockOven s).drawn = s.drawn ∧
    (lockOven s).pending = s.pending ∧
    (∀ hh : Heater, (lockOven s).install hh = s.install hh) ∧
    (∀ cc : Channel, (lockOven s).chan cc = s.chan cc) ∧
    (∀ hh : Heater, (lockOven s).heater hh = s.heater hh) ∧
    (∀ nn : Burner, (lockOven s).burner nn = s.burner nn) ∧
    (∀ hh : Heater, (lockOven s).heaterOut hh = s.heaterOut hh) := by
  unfold lockOven
  dsimp only
  simp

@[simp] theorem lockPlans_frame (s : State) :
    (lockPlans s).pins = s.pins ∧
    (lockPlans s).lnk = s.lnk ∧
    (lockPlans s).cfg = s.cfg ∧
    (lockPlans s).pfs = s.pfs ∧
    (lockPlans s).ovr = s.ovr ∧
    (lockPlans s).bsv = s.bsv ∧
    (lockPlans s).out = s.out ∧
    (lockPlans s).ntq = s.ntq ∧
    (lockPlans s).drawn = s.drawn ∧
    (lockPlans s).pending = s.pending ∧
    (∀ hh : Heater, (lockPlans s).install hh = s.install hh) ∧
    (∀ hh : Heater, (lockPlans s).heater hh = s.heater hh) ∧
    (∀ nn : Burner, (lockPlans s).burner nn = s.burner nn) ∧
    (∀ hh : Heater, (lockPlans s).heaterOut hh = s.heaterOut hh) := by
  unfold lockPlans
  dsimp only
  simp

@[simp] theorem enterLocked_frame (s : State) :
    (enterLocked s).pins = s.pins ∧
    (enterLocked s).drawn = s.drawn ∧
    (enterLocked s).pending = s.pending := by
  unfold enterLocked
  dsimp only
  simp

@[simp] theorem runReached_frame (h : Heater) (also : List Heater) (s : State) :
    (runReached h also s).pins = s.pins ∧
    (runReached h also s).drawn = s.drawn ∧
    (runReached h also s).pending = s.pending := by
  unfold runReached
  repeat' split
  all_goals simp

@[simp] theorem reportClosing_frame (c : Channel) (s : State) :
    (reportClosing c s).pins = s.pins ∧
    (reportClosing c s).lnk = s.lnk ∧
    (reportClosing c s).cfg = s.cfg ∧
    (reportClosing c s).drawn = s.drawn ∧
    (reportClosing c s).pending = s.pending ∧
    (∀ hh : Heater, (reportClosing c s).install hh = s.install hh) := by
  unfold reportClosing
  repeat' split
  all_goals simp

@[simp] theorem nextSecond_frame (c : Channel) (s : State) :
    (nextSecond c s).pins = s.pins ∧
    (nextSecond c s).lnk = s.lnk ∧
    (nextSecond c s).cfg = s.cfg ∧
    (nextSecond c s).pst = s.pst ∧
    (nextSecond c s).pfs = s.pfs ∧
    (nextSecond c s).ovr = s.ovr ∧
    (nextSecond c s).bsv = s.bsv ∧
    (nextSecond c s).out = s.out ∧
    (nextSecond c s).ntq = s.ntq ∧
    (nextSecond c s).drawn = s.drawn ∧
    (nextSecond c s).pending = s.pending ∧
    (∀ hh : Heater, (nextSecond c s).install hh = s.install hh) ∧
    (∀ hh : Heater, (nextSecond c s).heater hh = s.heater hh) ∧
    (∀ nn : Burner, (nextSecond c s).burner nn = s.burner nn) ∧
    (∀ hh : Heater, (nextSecond c s).heaterOut hh = s.heaterOut hh) := by
  unfold nextSecond
  dsimp only
  simp

@[simp] theorem validReading_frame (t : Nat) (s : State) :
    (validReading t s).pins = s.pins ∧
    (validReading t s).lnk = s.lnk ∧
    (validReading t s).cfg = s.cfg ∧
    (validReading t s).pst = s.pst ∧
    (validReading t s).drawn = s.drawn ∧
    (validReading t s).pending = s.pending ∧
    (∀ hh : Heater, (validReading t s).install hh = s.install hh) := by
  unfold validReading
  dsimp only
  repeat' split
  all_goals simp

@[simp] theorem invalidReading_frame (s : State) :
    (invalidReading s).pins = s.pins ∧
    (invalidReading s).lnk = s.lnk ∧
    (invalidReading s).cfg = s.cfg ∧
    (invalidReading s).pst = s.pst ∧
    (invalidReading s).drawn = s.drawn ∧
    (invalidReading s).pending = s.pending ∧
    (∀ hh : Heater, (invalidReading s).install hh = s.install hh) := by
  unfold invalidReading
  dsimp only
  repeat' split
  all_goals simp

@[simp] theorem withDoor_frame (level : DoorPos) (s : State) :
    (withDoor level s).lnk = s.lnk ∧
    (withDoor level s).cfg = s.cfg ∧
    (withDoor level s).pst = s.pst ∧
    (withDoor level s).plr = s.plr ∧
    (withDoor level s).pfs = s.pfs ∧
    (withDoor level s).ovr = s.ovr ∧
    (withDoor level s).bsv = s.bsv ∧
    (withDoor level s).out = s.out ∧
    (withDoor level s).ntq = s.ntq ∧
    (withDoor level s).drawn = s.drawn ∧
    (withDoor level s).pending = s.pending ∧
    (∀ hh : Heater, (withDoor level s).install hh = s.install hh) ∧
    (∀ cc : Channel, (withDoor level s).chan cc = s.chan cc) ∧
    (∀ hh : Heater, (withDoor level s).heater hh = s.heater hh) ∧
    (∀ nn : Burner, (withDoor level s).burner nn = s.burner nn) ∧
    (∀ hh : Heater, (withDoor level s).heaterOut hh = s.heaterOut hh) := by
  unfold withDoor
  dsimp only
  simp

@[simp] theorem takeDoor_frame (level : DoorPos) (s : State) :
    (takeDoor level s).lnk = s.lnk ∧
    (takeDoor level s).cfg = s.cfg ∧
    (takeDoor level s).pst = s.pst ∧
    (takeDoor level s).plr = s.plr ∧
    (takeDoor level s).pfs = s.pfs ∧
    (takeDoor level s).bsv = s.bsv ∧
    (takeDoor level s).out = s.out ∧
    (takeDoor level s).ntq = s.ntq ∧
    (takeDoor level s).drawn = s.drawn ∧
    (takeDoor level s).pending = s.pending ∧
    (∀ hh : Heater, (takeDoor level s).install hh = s.install hh) ∧
    (∀ cc : Channel, (takeDoor level s).chan cc = s.chan cc) ∧
    (∀ hh : Heater, (takeDoor level s).heater hh = s.heater hh) ∧
    (∀ nn : Burner, (takeDoor level s).burner nn = s.burner nn) ∧
    (∀ hh : Heater, (takeDoor level s).heaterOut hh = s.heaterOut hh) := by
  unfold takeDoor
  dsimp only
  simp

@[simp] theorem withKnob_frame (n : Burner) (level : KnobPos) (s : State) :
    (withKnob n level s).lnk = s.lnk ∧
    (withKnob n level s).cfg = s.cfg ∧
    (withKnob n level s).pst = s.pst ∧
    (withKnob n level s).plr = s.plr ∧
    (withKnob n level s).pfs = s.pfs ∧
    (withKnob n level s).ovr = s.ovr ∧
    (withKnob n level s).bsv = s.bsv ∧
    (withKnob n level s).out = s.out ∧
    (withKnob n level s).ntq = s.ntq ∧
    (withKnob n level s).drawn = s.drawn ∧
    (withKnob n level s).pending = s.pending ∧
    (∀ hh : Heater, (withKnob n level s).install hh = s.install hh) ∧
    (∀ cc : Channel, (withKnob n level s).chan cc = s.chan cc) ∧
    (∀ hh : Heater, (withKnob n level s).heater hh = s.heater hh) ∧
    (∀ nn : Burner, (withKnob n level s).burner nn = s.burner nn) ∧
    (∀ hh : Heater, (withKnob n level s).heaterOut hh = s.heaterOut hh) := by
  unfold withKnob
  dsimp only
  simp

end Sys2Proof.Machine
end

