-- ==== Sys2Proof/Laws/Drops.lean ====
section
/-! SUPPORT. What the handing of a demand of 0 does to the heaters, said once for the scheduler's record,
the output stage's record and the other heaters, and what a reply takes on the link. -/

namespace Sys2Proof.Machine

open Sys2Proof Sys2Proof.Claims

/-! ## A relay command that goes off -/

/-- Settling leaves the scheduler's records. -/
@[simp] theorem settle_heater (h g : Heater) (s : State) : (settle h s).heater g = s.heater g := by
  unfold settle; split <;> simp

/-- The output stage's records after a heater has entered SETTLING. -/
theorem settle_heaterOut (h g : Heater) (s : State) :
    (settle h s).heaterOut g =
      if g = h ∧ (s.install h).installed = true then
        { s.heaterOut h with check := .settling 200, run := 0 }
      else s.heaterOut g := by
  unfold settle
  by_cases hi : (s.install h).installed = true <;> simp [hi, State.setHeaterOut_heaterOut]

/-- The scheduler's records after a command has been handed. -/
theorem handCommand_heater (h g : Heater) (on : Bool) (s : State) :
    (handCommand h on s).heater g =
      if g = h then { s.heater h with relay := on } else s.heater g := by
  simp [handCommand, State.setHeater_heater]

/-- The output stage's records after a changed command has been handed. -/
theorem handCommand_heaterOut (h g : Heater) (on : Bool) (s : State) :
    (handCommand h on s).heaterOut g =
      if g = h then handed (s.install h).installed (!on) on (s.heaterOut h) else s.heaterOut g := by
  unfold handCommand handed
  rw [settle_heaterOut]
  by_cases hg : g = h
  · subst hg
    by_cases hi : (s.install g).installed = true <;> cases on <;> simp [hi]
  · simp [hg, State.setHeaterOut_heaterOut_of_ne]

/-- Writing a command that a record already holds changes nothing. -/
theorem relay_eta {r : HeaterFrame} {b : Bool} (hr : r.relay = b) : { r with relay := b } = r := by
  subst hr; rfl

/-- The scheduler's records after a command has gone off. -/
theorem relayOff_heater (h g : Heater) (s : State) :
    (relayOff h s).heater g = if g = h then { s.heater h with relay := false } else s.heater g := by
  unfold relayOff
  cases hr : (s.heater h).relay
  · by_cases hg : g = h
    · subst hg; simp [relay_eta hr]
    · simp [hg]
  · by_cases hf : feedsCoolingFan h = true <;> simp [hf, evalCoolingFan, handCommand_heater]

/-- The output stage's records after a command has gone off. -/
theorem relayOff_heaterOut (h g : Heater) (s : State) :
    (relayOff h s).heaterOut g =
      if g = h then handed (s.install h).installed (s.heater h).relay false (s.heaterOut h)
      else s.heaterOut g := by
  unfold relayOff
  cases hr : (s.heater h).relay
  · by_cases hg : g = h
    · subst hg; simp [handed]
    · simp [hg]
  · by_cases hf : feedsCoolingFan h = true <;> simp [hf, evalCoolingFan, handCommand_heaterOut]

/-! ## A demand of 0 -/

/-- The scheduler's records after a drop to zero (R62). -/
theorem dropHeater_heater (h g : Heater) (s : State) :
    (dropHeater h s).heater g =
      if g = h then
        { s.heater h with
          frame := 0, placed := noSlots, granted := 0
          relay := (s.heater h).relay && !(s.heater h).placed.get s.pfs.slot }
      else s.heater g := by
  unfold dropHeater
  by_cases hg : g = h
  · subst hg
    cases hp : (s.heater g).placed.get s.pfs.slot <;> simp [relayOff_heater]
  · cases hp : (s.heater h).placed.get s.pfs.slot <;>
      simp [relayOff_heater, hg, State.setHeater_heater_of_ne]

/-- A heater whose demand of 0 is handed is dropped. -/
theorem demandChange_zero_heater (h : Heater) (s : State) :
    (demandChange h 0 s).heater h = dropped s h := by
  unfold demandChange dropped
  dsimp only
  by_cases hh : (s.heater h).hold = .none
  · by_cases hr : (s.heater h).requested = 0
    · cases hs : s.pfs.sched
      · simp [hh]
      · rw [if_neg (by simp [hh]), if_pos (Or.inr hr), ← hr]
        exact State.setHeater_heater_self _ _ _
      · simp [hh, hr]
    · have hr' : ¬ 0 = (s.heater h).requested := fun e => hr e.symm
      cases hs : s.pfs.sched <;> simp [hh, hr, hr', dropHeater_heater]
  · simp [hh]

/-- A late placement leaves the scheduler's records of the other heaters. -/
theorem latePlace_heater_of_ne {h g : Heater} (d : Nat) (s : State) (hg : g ≠ h) :
    (latePlace h d s).heater g = s.heater g := State.setHeater_heater_of_ne _ _ hg

/-- A demand handed for one heater leaves the scheduler's records of the others. -/
theorem demandChange_heater_of_ne {h g : Heater} (d : Nat) (s : State) (hg : g ≠ h) :
    (demandChange h d s).heater g = s.heater g := by
  unfold demandChange
  dsimp only
  by_cases hh : (s.heater h).hold = .none
  · cases hs : s.pfs.sched
    · simp [hh]
    · simp [hh, State.setHeater_heater, hg]
    · simp only [hh, ne_eq, not_true_eq_false, if_false]
      split_ifs <;> simp [dropHeater_heater, hg, State.setHeater_heater, latePlace_heater_of_ne]
  · simp [hh]

/-! ## The reply on the link -/

/-- A reply of n body characters is n + 6 characters on TXD (Table 8-6). -/
@[simp] theorem replyFrame_length (r : Reply) : (replyFrame r).length = r.body.length + 6 := by
  simp [replyFrame, replyChars]

/-- The sending of a reply, in its body length (R163, log 7). -/
theorem sendingMs_eq (r : Reply) : sendingMs r = ((r.body.length + 6) * 55 + 95) / 96 := by
  simp [sendingMs]

end Sys2Proof.Machine
end

