-- ==== Sys2Proof/Laws/Link.lean ====
section
/-! SUPPORT. What the link does with a request command, said once: the arrival, the placing and the
reply. -/

namespace Sys2Proof.Machine

open Sys2Proof Sys2Proof.Claims

@[simp] theorem heard_cfg (s : State) : (heard s).cfg = s.cfg := rfl
@[simp] theorem heard_pst (s : State) : (heard s).pst = s.pst := rfl
@[simp] theorem heard_plr (s : State) : (heard s).plr = s.plr := rfl
@[simp] theorem heard_pfs (s : State) : (heard s).pfs = s.pfs := rfl
@[simp] theorem heard_ovr (s : State) : (heard s).ovr = s.ovr := rfl
@[simp] theorem heard_bsv (s : State) : (heard s).bsv = s.bsv := rfl
@[simp] theorem heard_out (s : State) : (heard s).out = s.out := rfl
@[simp] theorem heard_ntq (s : State) : (heard s).ntq = s.ntq := rfl
@[simp] theorem heard_pins (s : State) : (heard s).pins = s.pins := rfl
@[simp] theorem heard_drawn (s : State) : (heard s).drawn = s.drawn := rfl
@[simp] theorem heard_pending (s : State) : (heard s).pending = s.pending := rfl
@[simp] theorem heard_executing (s : State) : (heard s).lnk.executing = s.lnk.executing := rfl
@[simp] theorem heard_waiting (s : State) : (heard s).lnk.waiting = s.lnk.waiting := rfl
@[simp] theorem heard_chan (s : State) (c : Channel) : (heard s).chan c = s.chan c := rfl
@[simp] theorem heard_heater (s : State) (h : Heater) : (heard s).heater h = s.heater h := rfl
@[simp] theorem heard_heaterOut (s : State) (h : Heater) :
    (heard s).heaterOut h = s.heaterOut h := rfl
@[simp] theorem heard_burner (s : State) (n : Burner) : (heard s).burner n = s.burner n := rfl
@[simp] theorem heard_install (s : State) (h : Heater) : (heard s).install h = s.install h := rfl

/-- A request command is the arrival of its frame. -/
theorem exec_eq_arrive {c : Instr} {r : Request} (s : State) (hc : requestFrame c = some r) :
    exec c s = .next (arriveRequest r.addr r.kind r.tag r.body s) := by
  cases c <;> simp only [requestFrame, Option.some.injEq, reduceCtorEq] at hc <;> subst hc <;> rfl

/-- A frame that a body fits leaves the link as heard says, and its request is placed. -/
theorem arrive_eq_place {k t : Byte} {b : List Byte} (s : State) (hb : b.length ≤ 24) :
    arriveRequest .unit k t b s = placeRequest ⟨.unit, k, t, b⟩ (heard s) := by
  have hb' : ¬ 24 < b.length := by omega
  unfold arriveRequest acceptFrame restartSupervision abandonFrame discardFrame heard assembling
  rw [if_neg hb']
  obtain ⟨pins, lnk, cfg, pst, plr, pfs, ovr, bsv, out, ntq, drawn, pending⟩ := s
  obtain ⟨ua, asm, gap, ex, wt, tr, rp, dr, ll, sup⟩ := lnk
  cases asm <;> by_cases hp : cfg.part = .operating <;> simp [hp, State.withLnk]

/-- The broadcast frame of a STOP ALL is placed like a unit frame (R162). -/
theorem arrive_broadcast_eq_place {t : Byte} (s : State) :
    arriveRequest .broadcast 0x20 t [] s = placeRequest ⟨.broadcast, 0x20, t, []⟩ (heard s) := by
  unfold arriveRequest acceptFrame restartSupervision abandonFrame discardFrame heard assembling
  obtain ⟨pins, lnk, cfg, pst, plr, pfs, ovr, bsv, out, ntq, drawn, pending⟩ := s
  obtain ⟨ua, asm, gap, ex, wt, tr, rp, dr, ll, sup⟩ := lnk
  cases asm <;> by_cases hp : cfg.part = .operating <;> simp [hp, State.withLnk]

theorem place_free (r : Request) (s : State) (hs : free s) : placeRequest r s = takeRequest r s := by
  unfold placeRequest; rw [show s.lnk.executing = none from hs]

/-- An accepted request leaves what its owner leaves, with the reply built. -/
theorem answer_accept (r : Request) (body : List Byte) (u : State) :
    answerRequest r ⟨.accept body, u⟩ = accepts r body u := by
  unfold answerRequest accepts withReply clearReported
  split_ifs <;> rfl

/-- A refused request leaves what its owner leaves, with the refusal built. -/
theorem answer_refuse (r : Request) (cause : Cause) (detail : Nat) (u : State) :
    answerRequest r ⟨.refuse cause detail, u⟩ = refuses r cause detail u := by
  unfold answerRequest refuses withReply clearReported
  split_ifs <;> rfl

/-- A unit request that finds the part free is decided and answered at once. -/
theorem exec_request {c : Instr} {k t : Byte} {b : List Byte} (s : State)
    (hc : requestFrame c = some ⟨.unit, k, t, b⟩) (hb : b.length ≤ 24) (hs : free s) :
    exec c s = .next (answerRequest ⟨.unit, k, t, b⟩ (decideRequest ⟨.unit, k, t, b⟩ (heard s))) := by
  rw [exec_eq_arrive s hc]
  simp only
  rw [arrive_eq_place s hb, place_free _ _ (by exact hs)]
  rfl

/-- A request whose owner accepts it. -/
theorem exec_accepted {c : Instr} {k t : Byte} {b body : List Byte} {s u : State}
    (hc : requestFrame c = some ⟨.unit, k, t, b⟩) (hb : b.length ≤ 24) (hs : free s)
    (hd : decideRequest ⟨.unit, k, t, b⟩ (heard s) = accepted body u) :
    exec c s = .next (accepts ⟨.unit, k, t, b⟩ body u) := by
  rw [exec_request s hc hb hs, hd, accepted, answer_accept]

/-- A request that is refused. -/
theorem exec_refused {c : Instr} {k t : Byte} {b : List Byte} {s u : State} {cause : Cause}
    {detail : Nat} (hc : requestFrame c = some ⟨.unit, k, t, b⟩) (hb : b.length ≤ 24) (hs : free s)
    (hd : decideRequest ⟨.unit, k, t, b⟩ (heard s) = refused cause detail u) :
    exec c s = .next (refuses ⟨.unit, k, t, b⟩ cause detail u) := by
  rw [exec_request s hc hb hs, hd, refused, answer_refuse]

end Sys2Proof.Machine
end

