-- ==== Sys2Proof/Laws/Operands.lean ====
section
/-! SUPPORT. The encoding of operands read back (R172), and codes read back. -/

namespace Sys2Proof.Machine

open Sys2Proof

@[simp] theorem byteOf_toNat (n : Nat) : (byteOf n).toNat = n % 256 := by simp [byteOf]

theorem byteOf_self (b : Byte) : byteOf b.toNat = b := by simp [byteOf]

@[simp] theorem be16_length (n : Nat) : (be16 n).length = 2 := rfl
@[simp] theorem be24_length (n : Nat) : (be24 n).length = 3 := rfl

theorem charAt_append_right (pre l : List Byte) (i : Nat) :
    charAt (pre ++ l) (pre.length + i) = charAt l i := by
  simp [charAt, List.getD_eq_getElem?_getD, List.getElem?_append]

/-- A 16-bit number is read back from the characters that carry it. -/
theorem num16_be16 {n : Nat} (hn : n < 65536) (pre post : List Byte) :
    num16 (pre ++ be16 n ++ post) pre.length = n := by
  have h0 := charAt_append_right pre (be16 n ++ post) 0
  have h1 := charAt_append_right pre (be16 n ++ post) 1
  simp only [Nat.add_zero, ← List.append_assoc] at h0 h1
  simp only [num16, num8, h0, h1]
  simp only [charAt, be16, List.cons_append, List.nil_append, List.getD_cons_zero,
    List.getD_cons_succ, byteOf_toNat]
  omega

/-- A 24-bit number is read back from the characters that carry it. -/
theorem num24_be24 {n : Nat} (hn : n < 16777216) (pre post : List Byte) :
    num24 (pre ++ be24 n ++ post) pre.length = n := by
  have h0 := charAt_append_right pre (be24 n ++ post) 0
  have h1 := charAt_append_right pre (be24 n ++ post) 1
  have h2 := charAt_append_right pre (be24 n ++ post) 2
  simp only [Nat.add_zero, ← List.append_assoc] at h0 h1 h2
  simp only [num24, num8, h0, h1, h2]
  simp only [charAt, be24, List.cons_append, List.nil_append, List.getD_cons_zero,
    List.getD_cons_succ, byteOf_toNat]
  omega

@[simp] theorem channelOf_code (c : Channel) : channelOf (channelCode c) = some c := by
  cases c <;> rfl

@[simp] theorem heaterOf_code (h : Heater) : heaterOf (heaterCode h) = some h := by cases h <;> rfl

@[simp] theorem modeOf_code (m : Mode) : modeOf (modeCode m) = some m := by cases m <;> rfl

theorem channelCode_lt (c : Channel) : channelCode c < 8 := by cases c <;> decide

theorem channelOf_eq_none {n : Nat} (hn : 8 ≤ n) : channelOf n = none := by
  simpa [channelOf, allChannels] using hn

theorem heaterOf_eq_none {n : Nat} (hn : 6 ≤ n) : heaterOf n = none := by
  simpa [heaterOf, allHeaters] using hn

/-- An electric channel's code is 4 to 7 (00 Table 2). -/
theorem isElectric_iff_code (c : Channel) : isElectric c = true ↔ 4 ≤ channelCode c := by
  cases c <;> decide

end Sys2Proof.Machine
end

