-- ==== Sys2Proof/Laws/Owners.lean ====
section
/-! SUPPORT. What no owner of a request touches: the input lines, the link but for supervision, the
drawn count and the queue. -/

namespace Sys2Proof.Machine

open Sys2Proof Sys2Proof.Claims

/-- The fields that no request's owner changes. -/
structure OwnerKeeps (s t : State) : Prop where
  pins : t.pins = s.pins
  lnk : t.lnk = { s.lnk with supervision := t.lnk.supervision }
  drawn : t.drawn = s.drawn
  pending : t.pending = s.pending

theorem OwnerKeeps.refl (s : State) : OwnerKeeps s s := ⟨rfl, rfl, rfl, rfl⟩

/-- An operation that keeps the whole link keeps what OwnerKeeps asks. -/
theorem OwnerKeeps.of_eq {s t : State} (hp : t.pins = s.pins) (hl : t.lnk = s.lnk)
    (hd : t.drawn = s.drawn) (hq : t.pending = s.pending) : OwnerKeeps s t :=
  ⟨hp, by rw [hl], hd, hq⟩

theorem onChannel_keeps {f : Channel → State → Answered} (hf : ∀ c s, OwnerKeeps s (f c s).state)
    (code detail : Nat) (s : State) : OwnerKeeps s (onChannel code detail f s).state := by
  unfold onChannel
  split
  · exact .refl s
  · exact hf _ _

theorem quickSet_keeps (c : Channel) (n : Nat) (s : State) : OwnerKeeps s (quickSet c n s).state := by
  unfold quickSet
  dsimp only
  repeat' split
  all_goals first
    | exact .refl s
    | exact .of_eq (by simp [quickDone, accepted]) (by simp [quickDone, accepted])
        (by simp [quickDone, accepted]) (by simp [quickDone, accepted])

theorem adjustCurrent_keeps (code u : Nat) (v : Int) (c : Channel) (s : State) :
    OwnerKeeps s (adjustCurrent code u v c s).state := by
  unfold adjustCurrent adjustTime adjustLevel adjustSetpoint
  dsimp only
  repeat' split
  all_goals first
    | exact .refl s
    | exact .of_eq (by simp [accepted]) (by simp [accepted]) (by simp [accepted]) (by simp [accepted])

theorem commit_keeps (s : State) : OwnerKeeps s (ownPlanCommit s).state := by
  unfold ownPlanCommit
  dsimp only
  repeat' split
  all_goals first
    | exact .refl s
    | exact .of_eq (by simp [accepted, refused]) (by simp [accepted, refused])
        (by simp [accepted, refused]) (by simp [accepted, refused])

theorem close_keeps (s : State) : OwnerKeeps s (ownCloseConfig s).state := by
  unfold ownCloseConfig
  dsimp only
  split
  · exact .refl s
  · exact ⟨by simp [accepted], by simp [accepted], by simp [accepted], by simp [accepted]⟩

theorem ownerActs_keeps (k : ReqKind) (body : List Byte) (s : State) :
    OwnerKeeps s (ownerActs k body s).state := by
  cases k
  case closeConfig => exact close_keeps s
  case planCommit => exact commit_keeps s
  case adjust =>
    refine onChannel_keeps (fun c s => ?_) _ _ _
    split
    · exact .refl s
    · exact adjustCurrent_keeps _ _ _ _ _
  case quickLevel =>
    refine onChannel_keeps (fun c s => ?_) _ _ _
    split_ifs
    · exact .refl s
    · exact .refl s
    · unfold quickStop
      dsimp only
      split
      all_goals first
        | exact .refl s
        | exact .of_eq (by simp [quickDone, accepted]) (by simp [quickDone, accepted])
            (by simp [quickDone, accepted]) (by simp [quickDone, accepted])
    · exact quickSet_keeps _ _ _
  case start | pause | resume | skip | stop | clear =>
    refine onChannel_keeps (fun c s => ?_) _ _ _
    simp only [actStart, actPause, actResume, actSkip, actStop, actClear]
    repeat' split
    all_goals first
      | exact .refl s
      | exact .of_eq (by simp [channelDone, accepted]) (by simp [channelDone, accepted])
          (by simp [channelDone, accepted]) (by simp [channelDone, accepted])
  case planBegin =>
    refine onChannel_keeps (fun c s => ?_) _ _ _
    dsimp only
    split_ifs
    · exact .refl s
    · exact .of_eq rfl rfl rfl rfl
  case readChannel => exact onChannel_keeps (fun c s => .refl s) _ _ _
  case readStage =>
    cases body with
    | nil =>
      unfold ownerActs ownReadStageNext
      dsimp only
      repeat' split
      all_goals first | exact .refl s | exact .of_eq rfl rfl rfl rfl
    | cons a as =>
      refine onChannel_keeps (fun c s => ?_) _ _ _
      split
      · exact .refl s
      · exact .of_eq rfl rfl rfl rfl
  case fetchNotices =>
    unfold ownerActs ownFetchNotices
    dsimp only
    split_ifs
    all_goals first
      | exact .refl s
      | exact .of_eq (by simp [accepted]) (by simp [accepted]) (by simp [accepted])
          (by simp [accepted])
  case armAttention =>
    exact .of_eq (by simp [ownerActs, ownArmAttention, accepted])
      (by simp [ownerActs, ownArmAttention, accepted])
      (by simp [ownerActs, ownArmAttention, accepted])
      (by simp [ownerActs, ownArmAttention, accepted])
  case stopAll =>
    exact .of_eq (by simp [ownerActs, ownStopAll, accepted]) (by simp [ownerActs, ownStopAll, accepted])
      (by simp [ownerActs, ownStopAll, accepted]) (by simp [ownerActs, ownStopAll, accepted])
  all_goals
    first
      | exact .refl s
      | (unfold ownerActs
         simp only [ownSetBudget, ownSetHeater, ownSetOvenTuning, ownSetLink, ownPlanStage,
           ownReadFrame, ownRestart]
         repeat' split
         all_goals first | exact .refl s | exact .of_eq rfl rfl rfl rfl)

theorem decideRequest_keeps (r : Request) (s : State) : OwnerKeeps s (decideRequest r s).state := by
  unfold decideRequest
  split
  · exact .refl s
  · exact ownerActs_keeps _ _ _

/-! ## A request that passes the generic checks -/

/-- Past the generic checks a request is its owner's (R161, R167). -/
theorem decide_passed {kind tag : Byte} {body : List Byte} {a : FrameAddr} {s : State} {k : ReqKind}
    (hk : reqKindOf kind.toNat = some k) (hl : lengthFits k body.length = true)
    (h3 : s.cfg.part ≠ .locked ∨ k = .status)
    (h4 : s.cfg.part = .operating → isConfigKind k = false)
    (h5 : s.cfg.part = .configuring → isOperatingOnly k body = false) :
    decideRequest ⟨a, kind, tag, body⟩ s = ownerActs k body s := by
  have h3' : ¬ (s.cfg.part = .locked ∧ k ≠ .status) := by
    rintro ⟨hp, hn⟩; exact h3.elim (fun h => h hp) hn
  have h4' : ¬ (s.cfg.part = .operating ∧ isConfigKind k = true) := by
    rintro ⟨hp, hn⟩; rw [h4 hp] at hn; exact Bool.false_ne_true hn
  have h5' : ¬ (s.cfg.part = .configuring ∧ isOperatingOnly k body = true) := by
    rintro ⟨hp, hn⟩; rw [h5 hp] at hn; exact Bool.false_ne_true hn
  simp only [decideRequest, genericCheck, hk, hl, Bool.true_eq_false, if_false, if_neg h3', if_neg h4',
    if_neg h5']

/-- A unit request that finds the part free and passes the generic checks: its owner's answer. -/
theorem exec_passed {c : Instr} {kind tag : Byte} {body : List Byte} {s : State} {k : ReqKind}
    (hc : requestFrame c = some ⟨.unit, kind, tag, body⟩) (hb : body.length ≤ 24) (hs : free s)
    (hk : reqKindOf kind.toNat = some k) (hl : lengthFits k body.length = true)
    (h3 : s.cfg.part ≠ .locked ∨ k = .status)
    (h4 : s.cfg.part = .operating → isConfigKind k = false)
    (h5 : s.cfg.part = .configuring → isOperatingOnly k body = false) :
    exec c s =
      .next (answerRequest ⟨.unit, kind, tag, body⟩ (ownerActs k body (heard s))) := by
  rw [exec_request s hc hb hs, decide_passed (s := heard s) hk hl h3 h4 h5]

/-- A request on one channel that it can name (R2, R15). -/
theorem onChannel_named {s : State} {code : Byte} {c : Channel} (h : Named s code c)
    (detail : Nat) (f : Channel → State → Answered) :
    onChannel code.toNat detail f (heard s) = f c (heard s) := by
  unfold onChannel namedChannel
  rw [h.code, channelOf_code]
  have : ¬ (s.cfg.part = .operating ∧ s.cfg.absent.get c = true) := by
    rintro ⟨hp, ha⟩; rw [h.present hp] at ha; exact Bool.false_ne_true ha
  simp [this]

end Sys2Proof.Machine
end

