-- ==== Sys2Proof/Laws/Stages.lean ====
section
/-! SUPPORT. The operations on channels and on the oven in the words of the statements: each says once
all that the operation does. -/

namespace Sys2Proof.Machine

open Sys2Proof Sys2Proof.Claims

/-! ## Notices and channel records -/

/-- The assertion check leaves everything but the notice queue. -/
theorem assertionCheck_eq_withNtq (s : State) :
    assertionCheck s = s.withNtq (assertionCheck s).ntq := by
  unfold assertionCheck
  dsimp only [State.withNtq]
  split <;> rfl

/-- A notice leaves everything but the notice queue. -/
theorem raise_eq_withNtq (n : Notice) (s : State) : raise n s = s.withNtq (raise n s).ntq := by
  unfold raise
  dsimp only
  split
  · rfl
  · split
    · exact assertionCheck_eq_withNtq _
    · rfl

/-- What the assertion check does to the queue depends on the queue and the spacing interval alone. -/
theorem assertionCheck_ntq_congr {s t : State} (h : t.ntq = s.ntq)
    (hc : t.cfg.spacing = s.cfg.spacing) : (assertionCheck t).ntq = (assertionCheck s).ntq := by
  unfold assertionCheck
  rw [h, hc]
  split
  · rfl
  · exact h

/-- What a notice does to the queue depends on the queue and the spacing interval alone. -/
theorem raise_ntq_congr (n : Notice) {s t : State} (h : t.ntq = s.ntq)
    (hc : t.cfg.spacing = s.cfg.spacing) : (raise n t).ntq = (raise n s).ntq := by
  unfold raise
  rw [h]
  split
  · exact h
  · split
    · exact assertionCheck_ntq_congr rfl hc
    · rfl

theorem raise_setChan (n : Notice) (c : Channel) (r : ChannelRec) (s : State) :
    raise n (s.setChan c r) = (raise n s).setChan c r := by
  rw [raise_eq_withNtq n (s.setChan c r), raise_eq_withNtq n s,
    raise_ntq_congr n (t := s.setChan c r) (s := s) rfl rfl]
  rfl

theorem setChan_setChan (s : State) (c : Channel) (r q : ChannelRec) :
    (s.setChan c r).setChan c q = s.setChan c q := by cases c <;> rfl

theorem chan_of_plr {s t : State} (h : t.plr = s.plr) (c : Channel) : t.chan c = s.chan c := by
  simp only [State.chan, h]

/-! ## Ends and entries of a stage -/

theorem marked_getElem (r : ChannelRec) (i : Nat) (m : Mark) :
    (marked r i m)[i]? = r.plan[i]?.map (fun p => { p with mark := m }) := by
  simp [marked]

/-- A mark, a notice when the record asks for one, and the last end cause. -/
theorem passStage_eq (c : Channel) (i : Nat) (m : Mark) (cause : EndCause) (s : State)
    (p : PoolRecord) (h : (s.chan c).plan[i]? = some p) :
    setLastEnd c cause (notifyStage c i cause (markRecord c i m s)) =
      stageEnd c i p.spec cause
        (s.setChan c { s.chan c with plan := marked (s.chan c) i m, lastEnd := cause }) := by
  have hm : markRecord c i m s = s.setChan c { s.chan c with plan := marked (s.chan c) i m } := rfl
  have hp : ((markRecord c i m s).chan c).plan[i]? = some { p with mark := m } := by
    rw [hm, State.setChan_chan_self, marked_getElem, h]
    rfl
  unfold notifyStage stageEnd setLastEnd
  rw [hp]
  by_cases hn : p.spec.notify = true
  · simp only [hn, if_true]
    rw [hm, raise_setChan, raise_setChan, State.setChan_chan_self, setChan_setChan]
  · simp only [Bool.not_eq_true] at hn
    simp only [hn, Bool.false_eq_true, if_false]
    rw [hm, State.setChan_chan_self, setChan_setChan]

/-- A stage ends (R33). -/
theorem endStage_eq (c : Channel) (i : Nat) (cause : EndCause) (s : State) (p : PoolRecord)
    (h : (s.chan c).plan[i]? = some p) : endStage c i cause s = ended c i p.spec cause s :=
  passStage_eq c i (.ended cause) cause s p h

/-- A stage is flushed (R32). -/
theorem flushStage_eq (c : Channel) (i : Nat) (s : State) (p : PoolRecord)
    (h : (s.chan c).plan[i]? = some p) :
    flushStage c i s = stageEnd c i p.spec .flushed
      (s.setChan c { s.chan c with plan := marked (s.chan c) i .flushed, lastEnd := .flushed }) :=
  passStage_eq c i .flushed .flushed s p h

/-- The plan ends (R35, R36). -/
theorem finishPlan_eq (c : Channel) (cause : PlanEnd) (detail : Nat) (s : State) :
    finishPlan c cause detail s =
      raise { kind := .planEnd, subject := channelCode c, detail1 := planEndCode cause
              detail2 := detail } (s.setChan c (done (s.chan c) cause)) := rfl

/-- A channel is halted (R23). -/
theorem haltChannel_eq (c : Channel) (cause : HaltCause) (s : State) :
    haltChannel c cause s =
      raise { kind := .channelHalted, subject := channelCode c, detail1 := haltCode cause
              detail2 := (s.chan c).stageIndex } (s.setChan c (halted (s.chan c) cause)) := rfl

/-- A stage is entered in the channel record (R31). -/
theorem enterRecord_eq (c : Channel) (i : Nat) (p : PoolRecord) (s : State) :
    enterRecord c i p s = s.setChan c (entered (s.chan c) i p.spec) := by
  unfold enterRecord entered ChannelRec.modifyRecord
  rfl

/-- A state keeps its oven controller when the pending mark gains nothing. -/
theorem withOvr_pending_or_false {s t : State} (h : t.ovr = s.ovr) :
    t.withOvr { s.ovr with boostEndPending := s.ovr.boostEndPending || false } = t := by
  rw [Bool.or_false, ← h]
  rfl

/-- The target is found (R87). -/
theorem findTarget_eq (s : State) : findTarget s = reached (s.chan .ov).stageIndex s := by
  let m := s.setChan .ov { s.chan .ov with
    plan := (s.chan .ov).plan.modify (s.chan .ov).stageIndex
      (fun p => { p with targetReached := true }) }
  let n : Notice :=
    { kind := .target, subject := 6, detail1 := (s.chan .ov).stageIndex, detail2 := 0 }
  have h : (raise n m).ovr = s.ovr := by rw [raise_eq_withNtq]; rfl
  show (if (raise n m).ovr.source = .boost then
      (raise n m).withOvr { (raise n m).ovr with boostEndPending := true } else raise n m) =
    (raise n m).withOvr { s.ovr with
      boostEndPending := s.ovr.boostEndPending || decide (s.ovr.source = .boost) }
  by_cases hs : s.ovr.source = .boost
  · rw [h, if_pos hs, decide_eq_true hs, Bool.or_true]
  · rw [h, if_neg hs, decide_eq_false hs, withOvr_pending_or_false h]

/-- The channel becomes EMPTY (R7, R19). -/
theorem emptyRecord_eq (c : Channel) (s : State) : emptyRecord c s = emptied c s := rfl

/-! ## The oven -/

theorem elementRow_eq (source : ElementSource) (mode : Mode) :
    (elementRow source mode).fan = rowFan source mode ∧
      ∀ h, (elementRow source mode).elements.get h = rowNames source mode h := by
  constructor
  · cases source <;> cases mode <;> rfl
  · intro h; cases source <;> cases mode <;> cases h <;> rfl

/-- The active set is formed (R83). -/
theorem formSet_eq (s : State) :
    formSet s = s.withOvr { s.ovr with
      active := activeSet s s.ovr.source s.ovr.mode, fanMark := rowFan s.ovr.source s.ovr.mode } := by
  obtain ⟨hf, he⟩ := elementRow_eq s.ovr.source s.ovr.mode
  have ht := he .top
  have hb := he .base
  have hr := he .ring
  simp only [PerOven.get] at ht hb hr
  simp only [formSet, activeSet, hf, ht, hb, hr]
  rfl

/-- A BAKE stage is taken (R82). -/
theorem takeBake_eq (mode : Mode) (setpoint : Nat) (preheat : Bool) (s : State) :
    takeBake mode setpoint preheat s = bakeTaken mode setpoint preheat s := by
  unfold takeBake
  rw [formSet_eq]
  rfl

theorem clearContext_eq (context : OvenContext) (s : State) :
    clearContext context s = noBake context s := rfl

/-- The set is empty by failure (R84). -/
theorem emptyByFailure_iff (s : State) :
    emptyByFailure s = true ↔ failedSet s s.ovr.source s.ovr.mode := by
  have he := (elementRow_eq s.ovr.source s.ovr.mode).2
  have hall : ∀ h : OvenHeater, h ∈ ovenHeaters := by intro h; cases h <;> decide
  simp only [emptyByFailure, failedSet, Bool.and_eq_true, Bool.not_eq_true', List.isEmpty_eq_false_iff,
    List.all_eq_true, List.mem_filter, he, ne_eq, List.filter_eq_nil_iff, not_forall, not_not]
  constructor
  · rintro ⟨⟨h, -, hn, hi⟩, hf⟩
    exact ⟨⟨h, hn, hi⟩, fun g gn gi => hf g ⟨hall g, gn, gi⟩⟩
  · rintro ⟨⟨h, hn, hi⟩, hf⟩
    exact ⟨⟨h, hall h, hn, hi⟩, fun g ⟨_, gn, gi⟩ => hf g gn gi⟩

/-- OV runs a BAKE stage. -/
theorem bakeRunning_iff (s : State) :
    bakeRunning s = true ↔ (s.chan .ov).state = .running ∧ s.ovr.context = .bake := by
  simp [bakeRunning]

/-- T_f has reached the setpoint. -/
theorem atTarget_iff (s : State) :
    atTarget s = true ↔ ∃ f, s.tempF = some f ∧ s.ovr.setpoint ≤ f := by
  unfold atTarget
  cases s.tempF <;> simp

/-! ## Faults -/

/-- The states in which a fault halts a channel (R23). -/
theorem faultReaches_iff (cause : HaltCause) (c : Channel) (st : ChannelState) :
    faultReaches cause c st = true ↔
      (cause ≠ .none ∧ st = .running) ∨
      (cause = .supply ∧ (st = .paused ∨ st = .ready)) ∨
      (cause = .element ∧ c = .ov ∧ st = .paused) ∨ (cause = .probe ∧ st = .paused) := by
  cases cause <;> cases st <;> simp [faultReaches]

end Sys2Proof.Machine
end

