-- ==== Sys2Proof/Tests/Slice0.lean ====
section
/-! SUPPORT. Tests against the worked examples and tables of spec/, each named in its comment, and for
every statement with hypotheses a witness that meets them. -/

namespace Sys2Proof.Tests

open Sys2Proof Sys2Proof.Machine Sys2Proof.Claims Sys2Proof.Safety

/-! ## Small states -/

/-- The state a command leaves. -/
def after (c : Instr) (s : State) : State :=
  match exec c s with
  | .next t => t
  | .fault _ | .refused _ => s

def replyKind (s : State) : Option Byte := s.lnk.reply.map (fun r => r.kind)
def replyBody (s : State) : List Byte := (s.lnk.reply.map (fun r => r.body)).getD []
def replyStatus (s : State) : Option Byte := s.lnk.reply.map (fun r => r.linkStatus)

/-- The state with both request slots empty again. -/
def quiet (s : State) : State :=
  s.withLnk { s.lnk with executing := none, transmitter := .idle, reply := none }

/-- A current record without flags. -/
def record (kind : StageKind) (duration : Nat) : PoolRecord :=
  { spec := { kind := kind, notify := false, cleanOnly := false, endOnTarget := false,
              preheat := false, duration := duration }
    mark := .current, targetReached := false }

/-- A channel in stage 0 of a plan, its channel level not yet handed. -/
def channelIn (state : ChannelState) (plan : List PoolRecord) (left : Remaining) : ChannelRec :=
  { ChannelRec.reset with
    state := state, plan := plan, remaining := left
    secondTimer := if state = .running then some 0 else none
    pauseTimer := if state = .paused then some { left := 600, phase := 0 } else none }

/-- The installation of Table 3-6 in OPERATING, before its first frame, strapped to 0x31. -/
def kitchen : State :=
  { State.reset with
    cfg := { State.reset.cfg with
      part := .operating, restarted := false, budget := some 3600
      heaters := ⟨⟨true, 1800, 1, 0⟩, ⟨true, 1200, 2, 16⟩, ⟨true, 1000, 4, 8⟩, ⟨true, 1200, 5, 24⟩,
        ⟨true, 2200, 3, 4⟩, ⟨true, 2000, 6, 12⟩⟩ }
    lnk := { State.reset.lnk with unitAddress := 0x31, supervision := some 8000 }
    out := { State.reset.out with
      contactor := .closed
      heaters := PerHeater.const
        { drive := false, check := .watching, run := 0, failed := false, welded := false } }
    pfs := { State.reset.pfs with sched := .starting, slotTimer := some 500 } }

/-- The kitchen with Z1 at level 9, Z2 at level 6 and OV baking toward 180 degrees at 171, as section
3.8 has it, with the demands handed. -/
def cooking : State :=
  let s := ((kitchen.setChan .z1
    { channelIn .running [record (.level 9) 0] .untimed with level := 9 }).setChan .z2
    { channelIn .running [record (.level 6) 0] .untimed with level := 6 }).setChan .ov
    (channelIn .running [record (.bake .conventional 180) 3600] (.timed 3600))
  let t := s.withOvr { s.ovr with
    context := .bake, setpoint := 180, buffer := [171], active := ⟨true, true, false⟩ }
  let u := t.withPst { t.pst with free := 37 }
  (u.setHeater .hz1 { u.heater .hz1 with requested := 24 }).setHeater .hz2
    { u.heater .hz2 with requested := 16 }

/-- Frame 1 of section 3.8. -/
def frame1 : State := after .frameBoundary cooking

def granted (s : State) : List Nat := allHeaters.map (fun h => (s.heater h).granted)
def starved (s : State) : List Nat := allHeaters.map (fun h => (s.heater h).starve)

/-! ## The power frame -/

/-- Table 3-7: the granted counts of frame 1, and Table 3-8: what is left in slots 0, 2, 8, 16, 24. -/
theorem test_frame_1_grants : granted frame1 = [24, 16, 18, 14, 0, 0] := by decide

theorem test_frame_1_capacity :
    [0, 2, 8, 16, 24, 31].map (fun i => frame1.pfs.capacity.get (Fin.ofNat 32 i)) =
      [800, 600, 800, 600, 200, 200] := by decide

/-- After frame 1 HBASE alone has gone short (section 3.8). -/
theorem test_frame_1_starves : starved frame1 = [0, 0, 0, 1, 0, 0] := by decide

/-- Table 3-9: with a starve count of 3 HBASE is placed first, and HTOP goes short. -/
theorem test_frame_4_promotes :
    let s := after .frameBoundary (cooking.setHeater .hbase { cooking.heater .hbase with starve := 3 })
    granted s = [24, 16, 14, 18, 0, 0] ∧ starved s = [0, 0, 1, 0, 0, 0] := by decide

/-- READ FRAME of HBASE in slot 5 of frame 1 (section 3.8). -/
theorem test_read_frame :
    let s := after .slotBoundary (frame1.withPfs { frame1.pfs with slot := 4 })
    replyBody (after (.readFrame 0 3) s) =
      [3, 2, 0, 1, 5, 18, 18, 14, 1, 4, 0, 0xFC, 0, 0, 0xFF, 0x02, 0x58] := by decide

/-- A late rise in frame 1: GR at level 6 in slot 20 gets no slot (section 3.8). -/
theorem test_late_rise :
    let s := after (.quickLevel 0 7 6) (frame1.withPfs { frame1.pfs with slot := 20 })
    let r := s.heater .hgrill
    [r.frame, r.granted, r.starve] = [16, 0, 0] ∧ r.late = true ∧ r.relay = false := by decide

/-- A drop in frame 1: Z1 paused in slot 10, its capacity withheld (section 3.8). -/
theorem test_drop :
    let s := after (.pause 0 4) (frame1.withPfs { frame1.pfs with slot := 10 })
    (s.heater .hz1).relay = false ∧ (s.heater .hz1).placed = noSlots ∧
      s.pfs.capacity.get 10 = 800 ∧ s.pfs.capacity.get 16 = 600 := by decide

/-- R53: at slot 24 HZ1 goes off and HZ2 stays on (Table 3-8). -/
theorem test_slot_boundary :
    let s := after .slotBoundary (after .slotBoundary (frame1.withPfs { frame1.pfs with slot := 22 }))
    s.pfs.slot = 24 ∧ allHeaters.map (fun h => (s.heater h).relay) =
      [false, true, true, true, false, false] := by decide

/-- Table 3-3. -/
theorem test_slots_of_levels :
    (List.range 13).map slotsOfLevel = [0, 3, 5, 8, 11, 13, 16, 19, 21, 24, 27, 29, 32] := by decide

/-! ## The link -/

/-- R159: the frame of START of Z1 with TAG 0x07, and R164: its reply. -/
theorem test_request_characters : requestChars 0x18 7 [4] = [0x03, 0x18, 0x07, 0x04, 0xDA] := by
  decide

theorem test_reply_frame :
    replyFrame { kind := 0x98, tag := 7, linkStatus := 4, body := [4, 2, 0] } =
      [.address 0x20, .data 0x06, .data 0x98, .data 0x07, .data 0x04, .data 0x04, .data 0x02,
        .data 0x00, .data 0x51] := by decide

/-- The kitchen with Z1 READY and one notice waiting, as the example of R164 has it. -/
def readyZ1 : State :=
  (kitchen.setChan .z1 (channelIn .ready [record (.level 9) 0] .untimed)).withNtq
    { kitchen.ntq with
      queue := [{ kind := .stageEnd, subject := 5, detail1 := 0, detail2 := 1 }], armed := false }

/-- R159, R164: the SUM completes the frame, START is accepted and the reply shows NOTICE. -/
theorem test_sum_completes_the_frame :
    let s := after (.dataCharacter 0xDA)
      (readyZ1.withLnk { readyZ1.lnk with
        assembler := .assembling .unit [0x03, 0x18, 0x07, 0x04], gap := some 0 })
    s.lnk.reply = some { kind := 0x98, tag := 7, linkStatus := 4, body := [4, 2, 0] } := by decide

/-- R159: a SUM that is one too high. -/
theorem test_checksum_error :
    let s := after (.dataCharacter 0xDB)
      (readyZ1.withLnk { readyZ1.lnk with
        assembler := .assembling .unit [0x03, 0x18, 0x07, 0x04], gap := some 0 })
    s.lnk.dropped = true ∧ s.lnk.executing = none ∧ (s.chan .z1).state = .ready := by decide

/-- R157: LEN 27 is discarded, LEN 26 is not. -/
theorem test_len_bounds :
    let s := kitchen.withLnk { kitchen.lnk with assembler := .assembling .unit [], gap := some 3 }
    (after (.dataCharacter 27) s).lnk.assembler = .ignoring ∧
      (after (.dataCharacter 26) s).lnk.assembler = .assembling .unit [26] := by decide

/-- R156: a part strapped to 0x31 passes over 0x32. R158: the frame cut off sets DROPPED. -/
theorem test_address_character :
    let s := kitchen.withLnk { kitchen.lnk with assembler := .assembling .unit [3], gap := some 3 }
    let t := after (.addressCharacter 0x32) s
    t.lnk.assembler = .ignoring ∧ t.lnk.dropped = true ∧
      (after (.addressCharacter 0x31) s).lnk.assembler = .assembling .unit [] := by decide

theorem test_framing_error :
    let s := kitchen.withLnk { kitchen.lnk with assembler := .assembling .unit [3], gap := some 3 }
    (after .framingError s).lnk.assembler = .idle ∧ (after .framingError s).lnk.dropped = true := by
  decide

theorem test_gap_timeout :
    let s := kitchen.withLnk { kitchen.lnk with assembler := .assembling .unit [3], gap := some 20 }
    (after .gapTimeout s).lnk.assembler = .idle ∧ (after .gapTimeout s).lnk.gap = none := by decide

/-- Table 8-13: frame B waits behind A, frame C is discarded, and after the reply to A, B is taken. -/
def frameA : State := after (.readFrame 1 3) kitchen

theorem test_second_request_waits :
    (after (.fetchNotices 2 5 1) frameA).lnk.waiting = some ⟨.unit, 0x30, 2, [5, 1]⟩ := by decide

theorem test_third_request_is_dropped :
    let s := after (.readChannel 3 6) (after (.fetchNotices 2 5 1) frameA)
    s.lnk.dropped = true ∧ s.lnk.waiting = some ⟨.unit, 0x30, 2, [5, 1]⟩ := by decide

/-- 23 characters of 11 bit times at 19,200 bit/s are 13.2 ms (section 8.10), rounded up. -/
theorem test_reply_start :
    let s := frameA.withLnk { frameA.lnk with transmitter := .delay 0 }
    (after .replyStart s).lnk.transmitter = .sending 14 := by decide

theorem test_reply_sent_takes_the_waiting_request :
    let s := after (.fetchNotices 2 5 1) frameA
    let t := after .replySent (s.withLnk { s.lnk with transmitter := .sending 0, dropped := true })
    t.lnk.executing = some ⟨.unit, 0x30, 2, [5, 1]⟩ ∧ t.lnk.waiting = none ∧
      t.lnk.dropped = false ∧ replyStatus t = some 2 := by decide

/-- R182: the reply to RESTART is followed by the reset with cause REQUESTED. -/
theorem test_restart_resets :
    let s := after (.restart 5) kitchen
    let t := after .replySent (s.withLnk { s.lnk with transmitter := .sending 0 })
    replyKind s = some 0x88 ∧ t.cfg.part = .configuring ∧ t.cfg.resetCause = .requested ∧
      t.out.contactor = .opened := by decide

/-- R170, R24: Z1 running is paused, and LINK-LOST is raised. -/
theorem test_link_loss :
    let s := after .linkSupervisionExpiry frame1
    (s.chan .z1).state = .paused ∧ s.lnk.linkLostSeen = true ∧ s.lnk.supervision = none ∧
      s.ntq.queue = [{ kind := .linkLost, subject := 255, detail1 := 0, detail2 := 0 }] := by decide

/-- R162: a broadcast STOP ALL is executed and not answered. -/
theorem test_stop_all_broadcast :
    let s := after (.stopAll true 0) frame1
    (s.chan .z1).state = .empty ∧ s.pst.free = 40 ∧ s.lnk.reply = none ∧
      (s.heater .hz1).relay = false := by decide

/-! ## Configuration and the part -/

/-- R175: the knobs, the door and the straps are read directly. -/
theorem test_power_on_reads_the_inputs :
    let s := after (.powerOnReset ⟨.closed, .opened, .closed, .closed, .opened, true, false⟩) frame1
    s.lnk.unitAddress = 0x32 ∧ (s.burner .n2).state = .waitClose ∧ (s.burner .n1).state = .off ∧
      s.ovr.lamp = true := by decide

/-- Table 9-2. -/
theorem test_status :
    let s := after (.status 0) State.reset
    replyBody s = [0, 1, 0, 0, 0, 0, 0, 0, 0, 0, 0, 0, 0] ∧ replyStatus s = some 0x11 ∧
      s.cfg.restarted = false := by decide

theorem test_close_config_without_budget :
    replyBody (after (.closeConfig 0) State.reset) = [0x07, 6, 1] := by decide

theorem test_set_budget :
    let s := after (.setBudget 0 3600) State.reset
    replyKind s = some 0x83 ∧ replyBody s = [0, 0] ∧ s.cfg.budget = some 3600 := by decide

/-- The kitchen as it is configured, HBASE still at rank 4. -/
def installing : State :=
  State.reset.withCfg { State.reset.cfg with
    budget := some 3600, heaters := kitchen.cfg.heaters.set .hbase ⟨true, 1200, 4, 24⟩ }

theorem test_close_config_with_a_rank_twice :
    replyBody (after (.closeConfig 0) installing) = [0x07, 6, 3] := by decide

theorem test_set_heater_replies_the_old_record :
    let s := after (.setHeater 0 3 1 1200 5 24) installing
    replyBody s = [3, 1, 0x04, 0xB0, 4, 24] ∧ s.install .hbase = ⟨true, 1200, 5, 24⟩ := by decide

theorem test_close_config :
    let s := after (.closeConfig 0) (quiet (after (.setHeater 0 3 1 1200 5 24) installing))
    replyBody s = [0x3F, 0x00] ∧ s.cfg.part = .operating ∧ s.out.contactor = .closed ∧
      s.pfs.slotTimer = some 500 ∧ s.lnk.supervision = some 8000 := by decide

/-- R176: one past each end. -/
theorem test_set_oven_tuning :
    replyBody (after (.setOvenTuning 0 33 10) State.reset) = [0x05, 6, 1] ∧
      replyBody (after (.setOvenTuning 0 32 41) State.reset) = [0x05, 6, 2] ∧
      replyBody (after (.setOvenTuning 0 32 40) State.reset) = [16, 20] := by decide

theorem test_set_link :
    replyBody (after (.setLink 0 3 0) State.reset) = [0x06, 6, 1] ∧
      replyBody (after (.setLink 0 30 20) State.reset) = [8, 5] := by decide

/-- R181: the first characters, and those of HBASE. -/
theorem test_read_config :
    let b := replyBody (after (.readConfig 0) kitchen)
    b.take 8 = [1, 0x0E, 0x10, 16, 20, 8, 5, 40] ∧ b.length = 38 ∧
      (b.drop 23).take 5 = [1, 0x04, 0xB0, 5, 24] := by decide

/-- R182: a RUNNING channel comes before a burner that is not OFF. -/
theorem test_restart_busy :
    replyBody (after (.restart 0) cooking) = [0x08, 7, 1] := by decide

/-- R167: KIND 0x09 is in no row of Table 8-7; START of Z1 needs OPERATING. -/
theorem test_unknown_kind : replyBody (after (.unknownKindRequest 9 0 [1]) kitchen) = [9, 1, 0] := by
  decide

theorem test_not_configured : replyBody (after (.start 0 4) State.reset) = [0x18, 5, 0] := by decide

/-! ## Loading a plan (Table 1-6) -/

/-- 33 free records, Z1 in DONE with two. -/
def loading : State :=
  (kitchen.setChan .z1
    (channelIn .done [record (.level 3) 60, record (.level 4) 60] (.timed 0))).withPst
    { free := 33, load := some { target := .z1, expected := 3, staged := [], idle := some 4000 } }

theorem test_plan_begin :
    let s := after (.planBegin 0 4 3) (loading.withPst { loading.pst with load := none })
    replyBody s = [4, 3, 35] ∧ s.pst.free = 33 ∧
      (s.pst.load.map (fun l => l.idle)) = some (some 10000) := by decide

theorem test_plan_stage_level :
    let s := after (.planStage 0 0 [1, 0, 0, 0, 0, 8]) loading
    replyBody s = [0, 2] ∧
      s.pst.load.map (fun l => l.staged.map (fun p => p.kind)) = some [.level 8] := by decide

/-- RAMP 8 to 4 over 900 s in segments of 300 s; flag bits 4 to 7 are not stored (R172). -/
theorem test_plan_stage_ramp :
    let s := after (.planStage 0 0 [2, 0xF1, 0, 3, 0x84, 8, 4, 1, 0x2C]) loading
    s.pst.load.map (fun l => l.staged) =
      some [{ (record (.ramp 8 4 300) 900).spec with notify := true }] := by decide

theorem test_plan_stage_sequence :
    replyBody (after (.planStage 0 2 [3, 0, 0, 0, 0]) loading) = [0x11, 9, 0] := by decide

/-- The example of check 9 of Table 1-5: 72 segments fail, 60 pass. -/
theorem test_segment_count_check :
    replyBody (after (.planStage 0 0 [2, 0, 0, 0x1C, 0x20, 0, 12, 0, 100]) loading) =
        [0x11, 6, 9] ∧
      replyBody (after (.planStage 0 0 [2, 0, 0, 0x1C, 0x20, 0, 12, 0, 120]) loading) = [0, 2] := by
  decide

/-- The three stages staged. -/
def staged : State :=
  loading.withPst { loading.pst with
    load := some
      { target := .z1, expected := 3
        staged := [(record (.level 8) 600).spec, (record (.ramp 8 4 300) 900).spec,
          (record .wait 0).spec]
        idle := some 9000 } }

theorem test_plan_commit :
    let s := after (.planCommit 0) staged
    replyBody s = [4, 3, 32] ∧ (s.chan .z1).state = .ready ∧ (s.chan .z1).remaining = .timed 600 ∧
      s.pst.load = none := by decide

theorem test_load_idle_timeout : (after .loadIdleTimeout staged).pst.load = none := by decide

/-! ## Channels -/

/-- Z1 is READY with a plan; R15: BLOCKED with detail SUPPLY under supply-off. -/
theorem test_start :
    let s := after (.start 7 4) readyZ1
    replyBody s = [4, 2, 0] ∧ (s.chan .z1).level = 9 ∧ (s.heater .hz1).requested = 24 := by decide

theorem test_start_under_supply_off :
    replyBody (after (.start 7 4) (readyZ1.withOut { readyZ1.out with supplyOff := true })) =
      [0x18, 12, 2] := by decide

/-- Z1 was READY with one stage when a weld was found, and is HALTED with cause SUPPLY. -/
def weldKitchen : State :=
  (kitchen.setChan .z1 { channelIn .halted [record (.level 9) 0] .untimed with
    haltCause := .supply }).withOut { kitchen.out with supplyOff := true, contactor := .opened }

/-- R15, R22, R23: after the weld the channel is HALTED, and START and QUICK LEVEL are refused (log 33). -/
theorem test_requests_after_the_weld :
    replyBody (after (.start 7 4) weldKitchen) = [0x18, 4, 5] ∧
      replyBody (after (.quickLevel 7 4 6) weldKitchen) = [0x1F, 4, 5] := by decide

theorem test_resume :
    let s := quiet (after (.pause 0 4) (frame1.withPfs { frame1.pfs with slot := 10 }))
    let t := after (.resume 0 4) (s.withPfs { s.pfs with slot := 14 })
    replyBody t = [4, 2, 0] ∧ (t.heater .hz1).requested = 24 ∧ (t.heater .hz1).granted = 0 := by
  decide

theorem test_stop :
    let s := after (.stop 0 4) cooking
    replyBody s = [4, 0, 0] ∧ s.pst.free = 38 ∧ (s.chan .z1).plan = [] := by decide

theorem test_clear :
    replyBody (after (.clear 0 4) loading) = [4, 0, 0] ∧
      replyBody (after (.clear 0 4) cooking) = [0x1D, 4, 2] := by decide

/-- Tables 2-5 and 2-6: GR in stage 0 of the flush chain. -/
def grill : State :=
  let flag (p : PoolRecord) (notify clean : Bool) : PoolRecord :=
    { p with spec := { p.spec with notify := notify, cleanOnly := clean }, mark := .pending }
  kitchen.setChan .gr
    { channelIn .running
        [record (.level 10) 600, flag (record .wait 120) true true,
          flag (record (.level 4) 300) false true, flag (record (.level 2) 0) true false]
        (.timed 200) with level := 10 }

theorem test_skip_flushes :
    let s := after (.skip 0 7) grill
    replyBody s = [7, 2, 3] ∧
      (s.chan .gr).plan.map (fun p => p.mark) = [.ended .cut, .flushed, .flushed, .current] ∧
      s.ntq.queue = [{ kind := .stageEnd, subject := 7, detail1 := 1, detail2 := 4 }] ∧
      (s.heater .hgrill).requested = 5 := by decide

/-- A SKIP of stage 3 then ends the plan (section 2.9). -/
theorem test_skip_ends_the_plan :
    let s := after (.skip 0 7) (quiet (after (.skip 0 7) grill))
    (s.chan .gr).state = .done ∧ (s.chan .gr).level = 0 ∧
      s.ntq.queue.drop 1 = [{ kind := .stageEnd, subject := 7, detail1 := 3, detail2 := 3 },
        { kind := .planEnd, subject := 7, detail1 := 1, detail2 := 4 }] := by decide

/-- Stage 0 ends ELAPSED, so the CLEAN-ONLY stage 1 is entered (section 2.9). -/
theorem test_elapsed_enters_a_clean_only_stage :
    let s := after (.stageElapsed .gr) grill
    (s.chan .gr).stageIndex = 1 ∧ (s.chan .gr).lastEnd = .elapsed ∧ (s.chan .gr).level = 0 := by
  decide

/-- Tables 2-2 and 2-3, and the ramp of Table 1-6. -/
theorem test_ramp_levels :
    (List.range 5).map (segmentLevel 3 9 5) = [3, 5, 6, 8, 9] ∧
      (List.range 6).map (segmentLevel 3 9 6) = [3, 4, 5, 7, 8, 9] ∧
      (List.range 3).map (segmentLevel 8 4 3) = [8, 6, 4] := by decide

/-- The 650 s ramp of Table 2-3 in segment 2, with some seconds remaining. -/
def ramping (left : Nat) : State :=
  kitchen.setChan .z1
    { channelIn .running [record (.ramp 3 9 120) 650] (.timed left) with
      segIndex := 2, segCount := 6, level := 5 }

/-- Table 2-4: 400 to 500, then with −200 to 351. -/
theorem test_adjust_time :
    let s := after (.adjustTime 0 4 100) (ramping 400)
    let t := after (.adjustTime 0 4 (BitVec.ofInt 24 (-200))) (quiet s)
    replyBody s = [4, 0, 2, 0, 0, 0x01, 0x90, 0, 0x01, 0xF4] ∧
      replyBody t = [4, 0, 2, 0, 0, 0x01, 0xF4, 0, 0x01, 0x5F] ∧
      (t.chan .z1).plan.map (fun p => p.spec.duration) = [601] := by decide

/-- R172: 0x800000 is −8,388,608. -/
theorem test_adjust_time_range :
    replyBody (after (.adjustTime 0 4 0x800000) (ramping 400)) = [0x1E, 6, 4] := by decide

/-- Table 2-3: segment 3 begins as the remaining falls from 291 to 290, at level 7. -/
theorem test_ramp_boundary :
    let s := after (.channelSecond .z1) (ramping 291)
    (s.chan .z1).segIndex = 3 ∧ (s.chan .z1).level = 7 ∧
      (after (.channelSecond .z1) (ramping 292)).chan .z1 = { (ramping 291).chan .z1 with
        secondTimer := some 0 } := by decide

/-- R42: ADJUST LEVEL on a RAMP stage has detail 0x12. -/
theorem test_adjust_level :
    replyBody (after (.adjustLevel 0 4 3) (ramping 400)) = [0x1E, 4, 0x12] ∧
      replyBody (after (.adjustLevel 0 4 12) cooking) = [4, 1, 2, 0, 0, 0, 9, 0, 0, 12] := by decide

/-- R43: a stage of 86,000 s with 85,000 s left takes 399 s of +5,000. -/
theorem test_adjust_time_at_the_longest_duration :
    let s := after (.adjustTime 0 6 5000)
      (cooking.setChan .ov
        (channelIn .running [record (.bake .conventional 180) 86000] (.timed 85000)))
    (s.chan .ov).remaining = .timed 85399 ∧
      (s.chan .ov).plan.map (fun p => p.spec.duration) = [86399] := by decide

/-- R47, R87: a setpoint at T_f reports the target at once. -/
theorem test_adjust_setpoint :
    let s := after (.adjustSetpoint 0 6 171) cooking
    replyBody s = [6, 2, 2, 0, 0, 0, 180, 0, 0, 171] ∧
      s.ntq.queue = [{ kind := .target, subject := 6, detail1 := 0, detail2 := 0 }] ∧
      replyBody (after (.adjustSetpoint 0 6 276) cooking) = [0x1E, 6, 11] := by decide

theorem test_quick_level :
    let s := after (.quickLevel 0 4 12) cooking
    replyBody s = [4, 2, 0, 9] ∧ (s.heater .hz1).requested = 32 ∧
      replyBody (after (.quickLevel 0 4 13) cooking) = [0x1F, 6, 5] := by decide

theorem test_pause_timer :
    let s := kitchen.setChan .gr
      { channelIn .paused [record (.level 10) 600] (.timed 200) with
        pauseTimer := some { left := 1, phase := 999 } }
    let t := after (.pauseTimerSecond .gr) s
    (t.chan .gr).state = .done ∧ (t.chan .gr).planEnd = .pauseExpired ∧
      t.ntq.queue = [{ kind := .planEnd, subject := 7, detail1 := 2, detail2 := 0 }] ∧
      after (.pauseExpiry .gr) s = t := by decide

/-- Table 8-10 for Z1 in slot 0 of frame 1, and for B1. -/
theorem test_read_channel :
    replyBody (after (.readChannel 0 4) frame1) =
        [4, 2, 1, 0, 0, 0xFF, 0xFF, 0xFF, 0xFF, 0xFF, 0xFF, 0, 0, 0, 0, 0, 24, 24] ∧
      replyBody (after (.readChannel 0 0) frame1) =
        [0, 0, 0, 0, 0, 0, 0, 0, 0, 0, 0, 0, 0, 0, 0, 0, 0, 0, 0, 0] := by decide

theorem test_read_stage :
    let s := after (.readStage 0 7 0) grill
    replyBody s = [7, 0, 1, 0, 0, 1, 0, 0, 0x02, 0x58, 10] ∧ s.plr.cursor = some (.gr, 0) := by decide

theorem test_read_stage_next :
    replyBody (after (.readStageNext 0) (grill.withPlr { grill.plr with cursor := some (.gr, 0) })) =
        [7, 1, 0, 0, 0, 3, 3, 0, 0, 120] ∧
      replyBody (after (.readStageNext 0) grill) = [0x29, 4, 0] := by decide

/-! ## The oven -/

/-- The example of R78. -/
theorem test_probe_reading :
    let s := cooking.withOvr { cooking.ovr with buffer := [168, 170, 173, 174] }
    s.tempF = some 171 ∧ (after (.probeReading 176) s).tempF = some 173 := by decide

/-- Table 4-2: the fourth open reading. -/
theorem test_probe_fault :
    let s := after (.probeReading (-1)) (cooking.withOvr { cooking.ovr with errorCounter := 6 })
    s.ovr.fault = true ∧ (s.chan .ov).haltCause = .probe ∧
      s.ntq.queue = [{ kind := .probe, subject := 6, detail1 := 1, detail2 := 8 },
        { kind := .channelHalted, subject := 6, detail1 := 3, detail2 := 0 }] := by decide

/-- The table of R85, with the band of 16 degrees. -/
theorem test_oven_demand :
    [(180, 171), (180, 179), (180, 170), (180, 150), (180, 180), (200, 187)].map
        (fun p => heaterDemand (cooking.withOvr { cooking.ovr with setpoint := p.1, buffer := [p.2] })
          .top) = [18, 2, 20, 32, 0, 26] := by decide

/-- Table 4-5: the boost set, and the mode's set after the target. -/
theorem test_preheat :
    let s := after (.start 0 6) (kitchen.setChan .ov (channelIn .ready
      [{ record (.bake .conventional 180) 3600 with
          spec := { (record (.bake .conventional 180) 3600).spec with preheat := true } }]
      (.timed 3600)))
    let t := after .frameBoundary (after (.probeReading 180) s)
    s.ovr.source = .boost ∧ s.ovr.active = ⟨true, true, true⟩ ∧ s.ovr.ovenFan = true ∧
      s.ovr.lamp = true ∧ t.ovr.source = .mode ∧ t.ovr.active = ⟨true, true, false⟩ ∧
      t.ovr.ovenFan = false := by decide

/-- The example of R91: at 199 degrees nothing is cut, at 200 both heaters are dropped. -/
theorem test_overshoot :
    let s := frame1.withOvr { frame1.ovr with buffer := [] }
    (after (.probeReading 199) s).ovr.handed = ⟨18, 18, 0⟩ ∧
      (after (.probeReading 200) s).ovr.handed = ⟨0, 0, 0⟩ ∧
      ((after (.probeReading 200) s).heater .htop).relay = false := by decide

/-- Table 4-6. -/
theorem test_cooling_fan :
    [(true, 20, false), (false, 60, false), (false, 59, true), (false, 50, true), (false, 49, true),
      (false, 52, false)].map (fun p => coolingFanValue p.1 (some p.2.1) p.2.2) =
      [true, true, true, true, false, false] := by decide

/-- HGRILL is on for the last slot of its placement, with T_f at 45 and the cooling fan on. -/
def lastSlotOfGrill : State :=
  let s := kitchen.withPfs { kitchen.pfs with sched := .running }
  (s.setHeater .hgrill { s.heater .hgrill with relay := true }).withOvr
    { s.ovr with buffer := [45], coolingFan := true }

/-- R99: T_f comes to 55 and the last command goes off in one moment, in either order; a millisecond later
the fan stays off (R97). -/
theorem test_fan_in_either_order :
    let off := after .slotBoundary lastSlotOfGrill
    (off.ovr.coolingFan = false ∧ (after (.probeReading 65) off).ovr.coolingFan = true) ∧
      (after .slotBoundary (after (.probeReading 65) lastSlotOfGrill)).ovr.coolingFan = true ∧
      (after (.probeReading 65) (advance off)).ovr.coolingFan = false := by decide

/-- R93: the door opens on a bake with HRING. -/
theorem test_door_opened :
    let s := cooking.withOvr { cooking.ovr with
      mode := .fanRing, fanMark := true, active := ⟨false, false, true⟩, ovenFan := true }
    let t := after .doorOpened (after .frameBoundary s)
    ((after .frameBoundary s).heater .hring).relay = false ∧ t.ovr.handed.ring = 0 ∧
      (t.heater .hring).requested = 0 ∧ t.ovr.ovenFan = false ∧ t.ovr.lamp = true := by decide

theorem test_door_closed :
    let s := after .doorClosed (after .doorOpened cooking)
    s.ovr.doorState = .shut ∧ s.ovr.lamp = true := by decide

theorem test_door_input_change :
    (after (.doorInputChange .opened) cooking).ovr.doorDebounce = some 0 ∧
      (after (.doorInputChange .shut) (after (.doorInputChange .opened) cooking)).ovr.doorDebounce =
        none := by decide

/-! ## The burners -/

/-- The state of the burners, the queue, the owner and the hold window. -/
def burners (s : State) : List BurnerState × List Burner × Option Burner × HoldWindow :=
  (allBurners.map (fun n => (s.burner n).state), s.bsv.queue, s.bsv.owner, s.bsv.hold)

/-- Table 5-5 at time 0. -/
def opened3 : State := after (.knobOpened .n3) State.reset

theorem test_knob_opened :
    burners (after (.knobOpened .n4) (after (.knobOpened .n1) opened3)) =
      ([.queued, .off, .igniting, .queued], [.n1, .n4], some .n3, .run) := by decide

theorem test_knob_input_change :
    ((after (.knobInputChange .n1 .opened) State.reset).burner .n1).debounce = some 0 := by decide

theorem test_knob_closed :
    burners (after (.knobClosed .n3) opened3) =
      ([.off, .off, .off, .off], [], none, .tail 300) := by decide

/-- Table 5-5 at 300 and 1,300 ms. -/
theorem test_flame_proven :
    let s := after (.flameSenseChange .n3 true) (after (.knobOpened .n1) opened3)
    let t := after (.flameProven .n3) s
    (s.burner .n3).proving = some 0 ∧
      burners t = ([.queued, .off, .burning, .off], [.n1], none, .tail 300) ∧
      (t.burner .n3).flameLoss = .frozen 0 ∧ t.bsv.rest = some 500 := by decide

/-- Table 5-5 at 1,600 and 1,800 ms. -/
theorem test_hold_tail_and_rest :
    let s := after (.flameProven .n3)
      (after (.flameSenseChange .n3 true) (after (.knobOpened .n1) opened3))
    let t := after .holdTailEnd s
    let u := after .restTimerExpiry t
    (t.burner .n3).flameLoss = .running 0 ∧ t.bsv.hold = .closed ∧
      burners u = ([.igniting, .off, .burning, .off], [], some .n1, .run) ∧
      (u.burner .n3).flameLoss = .frozen 0 := by decide

/-- Table 5-4 at 4,000 and 6,000 ms. -/
theorem test_attempt_failed :
    let s := after (.attemptFailed .n3) opened3
    let t := after (.retryGapExpiry .n3) (s.withBsv { s.bsv with rest := none, hold := .closed })
    burners s = ([.off, .off, .retryGap, .off], [], none, .tail 300) ∧
      (s.burner .n3).attempts = 1 ∧ (s.burner .n3).gap = some 2000 ∧
      burners t = ([.off, .off, .igniting, .off], [], some .n3, .run) := by decide

/-- R115: the fourth loss locks the burner out, after FLAME-LOST. -/
theorem test_flame_lost :
    let s := State.reset.setBurner .n2 { State.reset.burner .n2 with
      knob := .opened, state := .burning, flameLoss := .running 1000, losses := 3 }
    let t := after (.flameLost .n2) s
    (t.burner .n2).state = .lockout ∧
      t.ntq.queue = [{ kind := .burner, subject := 2, detail1 := 2, detail2 := 4 },
        { kind := .burner, subject := 2, detail1 := 1, detail2 := 2 }] := by decide

/-! ## The output stage -/

/-- Table 6-4 at 2,200 ms: HZ2 commanded on and dead. -/
theorem test_open_element :
    let s := after (.settlingEnd .hz2) (after .slotBoundary (frame1.withPfs { frame1.pfs with slot := 15 }))
    let t := after (.persistenceRunExpiry .hz2 []) s
    (t.heaterOut .hz2).failed = true ∧ (t.heaterOut .hz2).check = .settling 200 ∧
      (t.heater .hz2).relay = false ∧ (t.chan .z2).haltCause = .element ∧
      t.ntq.queue = [{ kind := .heater, subject := 1, detail1 := 1, detail2 := 0 },
        { kind := .channelHalted, subject := 5, detail1 := 1, detail2 := 0 }] := by decide

/-- Table 6-6 at 2,200 ms: HZ1 commanded off and live, no other channel active. -/
def welded : State :=
  let s := kitchen.setChan .z1 { cooking.chan .z1 with level := 9 }
  after (.persistenceRunExpiry .hz1 [])
    (s.withPins { s.pins with loadSense := s.pins.loadSense.set .hz1 true })

theorem test_weld :
    welded.out.supplyOff = true ∧ welded.out.contactor = .opened ∧ welded.out.proving = some 2200 ∧
      (welded.chan .z1).haltCause = .supply ∧
      welded.ntq.queue = [{ kind := .heater, subject := 0, detail1 := 2, detail2 := 0 },
        { kind := .supplyOff, subject := 255, detail1 := 0, detail2 := 0 },
        { kind := .channelHalted, subject := 4, detail1 := 2, detail2 := 0 }] := by decide

/-- Section 6.6: the load stays live under the contactor check, and the part is LOCKED. -/
theorem test_locked :
    let s := kitchen.withOut { kitchen.out with
      contactor := .opened, supplyOff := true, check := true, proving := some 0 }
    let t := after (.persistenceRunExpiry .hz1 [])
      (s.withPins { s.pins with loadSense := s.pins.loadSense.set .hz1 true })
    t.cfg.part = .locked ∧ t.ntq.frozen = true ∧ t.out.supplyOff = true ∧
      replyBody (after (.armAttention 0) t) = [0x31, 3, 0] := by decide

theorem test_contactor_proving :
    (after .contactorProvingExpiry welded).out.proving = none := by decide

theorem test_load_sense :
    let s := kitchen.setHeaterOut .hz1 { kitchen.heaterOut .hz1 with run := 700 }
    ((after (.loadSenseChange .hz1 true) s).heaterOut .hz1).run = 700 ∧
      ((after (.loadSenseChange .hz1 false) s).heaterOut .hz1).run = 0 := by decide

/-! ## Notices (Table 7-3) -/

theorem test_notice_asserts :
    let s := raise { kind := .burner, subject := 3, detail1 := 2, detail2 := 1 } kitchen
    s.ntq.attn = true ∧ s.ntq.armed = false ∧ s.ntq.spacing = some 500 := by decide

theorem test_fetch_notices :
    let s := raise { kind := .burner, subject := 3, detail1 := 2, detail2 := 1 } kitchen
    let t := after (.fetchNotices 0 5 1) s
    replyBody t = [1, 0, 0, 5, 3, 2, 1] ∧ t.ntq.attn = false ∧ t.ntq.armed = true ∧
      replyBody (after (.fetchNotices 0 6 1) s) = [0x30, 6, 1] := by decide

theorem test_spacing_expiry :
    let s := kitchen.withNtq { kitchen.ntq with
      queue := [{ kind := .stageEnd, subject := 4, detail1 := 2, detail2 := 1 }], spacing := some 0 }
    let t := after .spacingTimerExpiry s
    t.ntq.attn = true ∧ t.ntq.spacing = some 500 ∧
      replyBody (after (.armAttention 0) t) = [1, 1] := by decide

/-- Section 7.6: with 15 notices waiting, a weld's HEATER is the last that fits. -/
theorem test_overflow :
    let s := raise { kind := .supplyOff, subject := 255, detail1 := 0, detail2 := 0 }
      (raise { kind := .heater, subject := 0, detail1 := 2, detail2 := 0 }
        (kitchen.withNtq { kitchen.ntq with
          queue := List.replicate 15 { kind := .probe, subject := 6, detail1 := 1, detail2 := 8 } }))
    s.ntq.queue.length = 16 ∧ s.ntq.overflow = true ∧
      (replyBody (after (.fetchNotices 0 5 0) s)).take 3 = [5, 1, 11] := by decide

/-! ## Well-formedness -/

/-- STATUS is a known kind. -/
theorem test_known_kind_is_ill_formed : (Instr.unknownKindRequest 1 0 []).wellFormed = false := by
  decide

theorem test_long_body_is_ill_formed :
    (Instr.unknownKindRequest 9 0 (List.replicate 25 0)).wellFormed = false ∧
      (Instr.unknownKindRequest 9 0 (List.replicate 24 0)).wellFormed = true := by decide

theorem test_long_record_is_ill_formed :
    (Instr.planStage 0 0 (List.replicate 24 0)).wellFormed = false ∧
      (Instr.planStage 0 0 (List.replicate 23 0)).wellFormed = true := by decide

theorem test_heater_twice_is_ill_formed :
    (Instr.persistenceRunExpiry .hz1 [.hz2, .hz2]).wellFormed = false ∧
      (Instr.persistenceRunExpiry .hz1 [.hz1]).wellFormed = false ∧
      (Instr.persistenceRunExpiry .hz1 [.hz2]).wellFormed = true := by decide

/-- The table gives no row any bits (log 20). -/
theorem test_no_word_spells_a_command : decodeTableWord 16 0x31 = none := rfl

/-! ## Witnesses: states and operands that meet the hypotheses of each statement -/

/-- A frame being assembled. -/
def midFrame : State :=
  kitchen.withLnk { kitchen.lnk with assembler := .assembling .unit [3, 0x18], gap := some 3 }

/-- The reply of s is being sent. -/
def sending (s : State) : State := s.withLnk { s.lnk with transmitter := .sending 0 }

/-- The kitchen in another part state. -/
def inPart (p : PartState) : State := kitchen.withCfg { kitchen.cfg with part := p }

/-- The kitchen with one channel in a given record. -/
def putting (c : Channel) (r : ChannelRec) : State := kitchen.setChan c r

/-- The kitchen with GR ABSENT. -/
def withoutGrill : State :=
  kitchen.withCfg { kitchen.cfg with absent := kitchen.cfg.absent.set .gr true }

theorem named (c : Channel) : Named kitchen (byteOf (channelCode c)) c := by
  constructor <;> cases c <;> decide

theorem named_to_run (c : Channel) : NamedToRun kitchen (byteOf (channelCode c)) c :=
  ⟨named c, fun _ => rfl⟩

theorem named_in (d c : Channel) (r : ChannelRec) :
    NamedToRun (putting d r) (byteOf (channelCode c)) c :=
  ⟨⟨(named c).code, (named c).part, (named c).present⟩, fun _ => rfl⟩

theorem witness_EmptyQueueRunsTheClock :
    let due := State.reset.withOvr { State.reset.ovr with probeTimer := some 0 }
    State.reset.pending = [] ∧ dueEvents State.reset = [] ∧ due.pending = [] ∧
      dueEvents due ≠ [] := by decide

theorem witness_CharactersAreAssembled :
    assembling kitchen = false ∧ midFrame.lnk.assembler = .assembling .unit [3, 0x18] ∧
      assembling midFrame = true ∧ midFrame.lnk.gap = some 3 ∧ kitchen.lnk.gap = none := by decide

/-- A body of 24 characters is the longest. -/
theorem witness_RequestsArePlaced :
    let r : Request := ⟨.unit, 9, 1, List.replicate 24 0⟩
    let e : Request := ⟨.unit, 0x2A, 1, [3]⟩
    let two := after (.fetchNotices 2 5 1) frameA
    requestFrame (.unknownKindRequest 9 1 (List.replicate 24 0)) = some r ∧ r.addr = .unit ∧
      r.body.length ≤ 24 ∧ kitchen.lnk.executing = none ∧ frameA.lnk.executing = some e ∧
      frameA.lnk.waiting = none ∧ two.lnk.executing = some e ∧
      two.lnk.waiting = some ⟨.unit, 0x30, 2, [5, 1]⟩ ∧
      requestFrame (.stopAll true 7) = some ⟨.broadcast, 0x20, 7, []⟩ := by decide

/-- A broadcast STOP ALL, and broadcast frames of another KIND and of another length, at their SUM. -/
theorem witness_RequestsArePlaced_broadcast :
    let at' (got : List Byte) : State :=
      kitchen.withLnk { kitchen.lnk with assembler := .assembling .broadcast got, gap := some 3 }
    let closes (got : List Byte) (d : Byte) : Prop :=
      let chars := got ++ [d]
      let len := (chars.headD 0).toNat
      (at' got).lnk.assembler = .assembling .broadcast got ∧ 2 ≤ len ∧ len ≤ 26 ∧
        chars.length = len + 2 ∧ (chars.map (fun b => b.toNat)).sum % 256 = 0
    closes [2, 0x20, 7] 0xD7 ∧ closes [2, 1, 7] 0xF6 ∧ closes [3, 0x20, 7, 0] 0xD6 := by decide

/-- The waiting request of each address, the reply to RESTART, and the longest body. -/
theorem witness_RepliesAreSpelledAndSent :
    let late := frameA.withLnk { frameA.lnk with transmitter := .delay 0 }
    let two := sending (after (.fetchNotices 2 5 1) frameA)
    let all := sending (after (.stopAll true 2) frameA)
    let restart := sending (after (.restart 5) kitchen)
    let locked := restart.withCfg { restart.cfg with part := .locked }
    let freed := two.withLnk { two.lnk with
      executing := none, waiting := none, transmitter := .idle, reply := none }
    let longest := after (.readConfig 0) kitchen
    (late.lnk.transmitter = .delay 0 ∧ late.lnk.reply.isSome = true) ∧
      ((sending frameA).lnk.transmitter = .sending 0 ∧ replyKind (sending frameA) = some 0xAA ∧
        (sending frameA).lnk.waiting = none) ∧
      (two.lnk.transmitter = .sending 0 ∧ replyKind two = some 0xAA ∧
        two.lnk.waiting.map (fun r => r.addr) = some .unit) ∧
      (all.lnk.transmitter = .sending 0 ∧ all.lnk.waiting.map (fun r => r.addr) = some .broadcast) ∧
      (restart.lnk.transmitter = .sending 0 ∧ replyKind restart = some 0x88 ∧
        restart.cfg.part ≠ .locked) ∧
      (locked.lnk.transmitter = .sending 0 ∧ replyKind locked = some 0x88 ∧
        locked.cfg.part = .locked) ∧
      (requestFrame (.fetchNotices 2 5 1) = two.lnk.waiting ∧ heard freed = freed) ∧
      (replyBody longest).length = 38 := by decide

/-- Z1 and OV run with their heaters placed in the current slot, and GR and a B channel do not run. -/
theorem witness_LinkLossPausesElectricChannels :
    State.reset.lnk.supervision = none ∧ frame1.lnk.supervision = some 8000 ∧
      (isElectric .z1 = true ∧ (frame1.chan .z1).state = .running) ∧ isElectric .b1 = false ∧
      (hobHeater .gr = some .hgrill ∧ (frame1.chan .gr).state ≠ .running) ∧
      (hobHeater .z1 = some .hz1 ∧ (frame1.chan .z1).level ≠ 0 ∧ frame1.pfs.sched = .running ∧
        (frame1.heater .hz1).hold = .none ∧ (frame1.heater .hz1).requested ≠ 0 ∧
        (frame1.heater .hz1).placed.get frame1.pfs.slot = true) ∧
      (isElectric .ov = true ∧ (frame1.chan .ov).state = .running ∧
        (frame1.install .htop).installed = true ∧ (frame1.install .htop).rank ≤ 6 ∧
        frame1.ovr.handed.top ≠ 0 ∧ (frame1.heater .htop).requested ≠ 0 ∧
        (frame1.heater .htop).hold = .none) := by decide

theorem witness_CharactersSpellTheRequest :
    let longest := Instr.unknownKindRequest 9 1 (List.replicate 24 0)
    (requestFrame longest).map (fun r => (r.addr, r.body.length)) = some (.unit, 24) ∧
      (requestFrame (.stopAll true 0)).map (fun r => (r.addr, r.body.length)) =
        some (.broadcast, 0) ∧
      kitchen.lnk.unitAddress ≠ 0x3F := by decide

/-- Check 1; a body one character too long, a record too short and one too long; LOCKED; the two ends of
the configuration kinds; and the two ends of the electric channels in CONFIGURING. -/
theorem witness_GenericChecksRefuse :
    free kitchen ∧ free (inPart .locked) ∧ free State.reset ∧
      requestFrame (.unknownKindRequest 9 0 []) = some ⟨.unit, 9, 0, []⟩ ∧ bodyLengths 9 = [] ∧
      requestFrame (.unknownKindRequest 0x18 0 [4, 0]) = some ⟨.unit, 0x18, 0, [4, 0]⟩ ∧
      bodyLengths 0x18 ≠ [] ∧ [(4 : Byte), 0].length ∉ bodyLengths 0x18 ∧
      (List.replicate 5 (0 : Byte)).length ∉ bodyLengths 0x11 ∧
      (List.replicate 11 (0 : Byte)).length ∉ bodyLengths 0x11 ∧
      (inPart .locked).cfg.part = .locked ∧ kitchen.cfg.part = .operating ∧
      requestFrame (.setBudget 0 1000) = some ⟨.unit, 3, 0, [0x03, 0xE8]⟩ ∧
      [(0x03 : Byte), 0xE8].length ∈ bodyLengths 3 ∧
      requestFrame (.closeConfig 0) = some ⟨.unit, 7, 0, []⟩ ∧ 0 ∈ bodyLengths 7 ∧
      State.reset.cfg.part = .configuring ∧
      requestFrame (.start 0 4) = some ⟨.unit, 0x18, 0, [4]⟩ ∧ [(4 : Byte)].length ∈ bodyLengths 0x18 ∧
      requestFrame (.quickLevel 0 7 3) = some ⟨.unit, 0x1F, 0, [7, 3]⟩ ∧
      [(7 : Byte), 3].length ∈ bodyLengths 0x1F := by
  unfold free; decide

theorem witness_StatusAndConfigAreReported :
    free kitchen ∧ free (inPart .locked) ∧ kitchen.cfg.part ≠ .locked := by
  unfold free; decide

/-- Heater codes 0, 5 and 6. -/
theorem witness_SettingsAreCheckedAndWritten :
    free State.reset ∧ State.reset.cfg.part = .configuring ∧
      (0 : Byte).toNat = heaterCode .hz1 ∧ (5 : Byte).toNat = heaterCode .hgrill ∧
      6 ≤ (6 : Byte).toNat := by
  unfold free; decide

/-- Each of the four checks failing at its bound, and an installation that passes with a rating equal to
the budget. -/
theorem witness_CloseConfigChecksAndOpens :
    let set (budget : Option Nat) (a b : HeaterCfg) : State :=
      State.reset.withCfg { State.reset.cfg with
        budget := budget, heaters := ⟨a, b, ⟨false, 0, 0, 0⟩, ⟨false, 0, 0, 0⟩, ⟨false, 0, 0, 0⟩,
          ⟨false, 0, 0, 0⟩⟩ }
    let out : HeaterCfg := ⟨false, 0, 0, 0⟩
    let gap := set (some 1000) ⟨true, 1000, 1, 0⟩ ⟨true, 1000, 3, 0⟩
    let over' := set (some 1000) ⟨true, 1010, 1, 0⟩ out
    let good := set (some 1000) ⟨true, 1000, 1, 0⟩ ⟨true, 1000, 2, 0⟩
    free State.reset ∧ State.reset.cfg.part = .configuring ∧ State.reset.cfg.budget = none ∧
      (free gap ∧ gap.cfg.part = .configuring ∧ gap.cfg.budget = some 1000 ∧
        (gap.install .hz1).installed = true ∧ ¬ ranksComplete gap) ∧
      ((set (some 1000) out out).cfg.budget = some 1000 ∧
        ∀ h, ((set (some 1000) out out).install h).installed = false) ∧
      (ranksComplete over' ∧ (over'.install .hz1).installed = true ∧
        1000 < (over'.install .hz1).rating) ∧
      (free good ∧ good.cfg.part = .configuring ∧ good.cfg.budget = some 1000 ∧
        (good.install .hz1).installed = true ∧ ranksComplete good ∧
        ∀ h, (good.install h).installed = true → (good.install h).rating ≤ 1000) := by
  refine ⟨rfl, rfl, rfl, ⟨rfl, rfl, rfl, rfl, ?_⟩, ⟨rfl, ?_⟩, ⟨⟨?_, ?_⟩, rfl, by decide⟩,
    ⟨rfl, rfl, rfl, rfl, ⟨?_, ?_⟩, ?_⟩⟩
  · intro h
    exact absurd (h.2 .hz2 rfl).2 (by decide)
  · intro h; cases h <;> rfl
  · intro h g; cases h <;> cases g <;> decide
  · intro h; cases h <;> decide
  · intro h g; cases h <;> cases g <;> decide
  · intro h; cases h <;> decide
  · intro h; cases h <;> decide

theorem not_moving (c : Channel) :
    (kitchen.chan c).state ≠ .running ∧ (kitchen.chan c).state ≠ .paused := by cases c <;> decide

/-- A paused channel; a burner alight; a proving contactor; a disagreeing heater; and none of these. -/
theorem witness_RestartIsCheckedInOrder :
    let paused := putting .gr (channelIn .paused [record (.level 1) 60] (.timed 60))
    let lit := kitchen.setBurner .n4 { kitchen.burner .n4 with state := .lockout }
    let proving := kitchen.withOut { kitchen.out with proving := some 0 }
    let run := (kitchen.withOut { kitchen.out with check := true }).setHeaterOut .hz1
      { kitchen.heaterOut .hz1 with run := 1 }
    (free kitchen ∧ kitchen.cfg.part ≠ .locked) ∧ (paused.chan .gr).state = .paused ∧
      (lit.burner .n4).state ≠ .off ∧ proving.out.proving ≠ none ∧
      (run.out.check = true ∧ (run.install .hz1).installed = true ∧ 0 < (run.heaterOut .hz1).run) ∧
      (∀ c, (kitchen.chan c).state ≠ .running ∧ (kitchen.chan c).state ≠ .paused) ∧
      (∀ n, (kitchen.burner n).state = .off) ∧ kitchen.out.proving = none ∧
      kitchen.out.check = false := by
  refine ⟨⟨rfl, by decide⟩, rfl, by decide, by decide, ⟨rfl, rfl, by decide⟩, not_moving, ?_, rfl, rfl⟩
  intro n; cases n <;> rfl

/-! ### Loading a plan -/

/-- Channel codes 8, 7 ABSENT and 7 present; a running and a stopped idle timer. -/
theorem witness_LoadContextOpensAndTimesOut :
    let stopped := staged.withPst { staged.pst with
      load := staged.pst.load.map (fun l => { l with idle := none }) }
    free kitchen ∧ 8 ≤ (8 : Byte).toNat ∧ kitchen.cfg.part ≠ .locked ∧
      ((7 : Byte).toNat = channelCode .gr ∧ free withoutGrill ∧
        withoutGrill.cfg.part = .operating ∧ withoutGrill.cfg.absent.get .gr = true) ∧
      NamedToRun kitchen (byteOf (channelCode .gr)) .gr ∧
      staged.pst.load.map (fun l => l.idle) = some (some 9000) ∧
      (∀ l ∈ stopped.pst.load, l.idle = none) ∧ kitchen.pst.load = none := by
  refine ⟨rfl, by decide, by decide, ⟨rfl, rfl, rfl, rfl⟩, named_to_run .gr, rfl, ?_, rfl⟩
  intro l h
  cases h
  rfl

theorem fits_level (n : Nat) (h : 1 ≤ n ∧ n ≤ 12) : stageFits (record (.level n) 86399).spec .z1 :=
  ⟨Nat.le_refl _, rfl, h.1, h.2, rfl, rfl⟩

/-- The last stage of an expected count; a wrong index; no stage expected any more; a wrong length; and a
record that fails its last check. -/
theorem witness_PlanStageStagesTheRecord :
    let two := staged.withPst { staged.pst with
      load := staged.pst.load.map (fun l => { l with staged := l.staged.take 2 }) }
    (free two ∧ two.cfg.part ≠ .locked ∧
      two.pst.load.map (fun l => (l.staged.length, l.expected)) = some (2, 3) ∧
      stageFits (record (.level 12) 86399).spec .z1) ∧
      kitchen.pst.load = none ∧
      staged.pst.load.map (fun l => (l.staged.length, l.expected)) = some (3, 3) ∧
      (recordLength (1 : Byte).toNat = some 6 ∧ (6 : Nat) ≠ 5) ∧
      (recordLength (4 : Byte).toNat = some [(4 : Byte), 0, 0, 0, 0, 0, 1, 20].length ∧
        firstFailed (recordChecks [4, 0, 0, 0, 0, 0, 1, 20] .ov) = some 11) ∧
      (recordLength (1 : Byte).toNat = some [(1 : Byte), 0xF1, 0, 0, 60, 12].length ∧
        firstFailed (recordChecks [1, 0xF1, 0, 0, 60, 12] .z1) = none) ∧
      (recordLength (6 : Byte).toNat = none ∧
        firstFailed (recordChecks [6, 0, 0, 0, 0] .z1) = some 1) := by
  refine ⟨⟨rfl, by decide, rfl, fits_level 12 (by decide)⟩, rfl, rfl, ⟨rfl, by decide⟩, ⟨rfl, ?_⟩,
    ⟨rfl, ?_⟩, rfl, ?_⟩
  · decide
  · decide
  · decide

/-- R172: the flag bits 4 to 7 of a record are not stored. -/
theorem test_flags_are_masked :
    recordChars (recordOf [1, 0xF1, 0, 0, 60, 12]) = [1, 0x01, 0, 0, 60, 12] := by decide

theorem witness_StagedRecordsFitTheirChannel :
    let s := loading
    let t := after (.planStage 0 0 [1, 0, 0, 0, 0, 8]) s
    free s ∧ s.pst.load.isSome = true ∧
      (∃ l ∈ t.pst.load, l.staged = [] ++ [(record (.level 8) 0).spec]) := by
  refine ⟨rfl, rfl, ⟨.z1, 3, [(record (.level 8) 0).spec], some 10000⟩, ?_, rfl⟩
  decide

/-- A channel in each state, the probe fault, an untimed stage before the last, and one record too few. -/
theorem witness_RefusedCommitClosesTheContext :
    let commit (r : ChannelRec) (l : LoadContext) (free : Nat) : State :=
      (kitchen.setChan l.target r).withPst { free := free, load := some l }
    let load (c : Channel) (expected : Nat) (stages : List StageSpec) : LoadContext :=
      { target := c, expected := expected, staged := stages, idle := some 9000 }
    let wait (d : Nat) : StageSpec := (record .wait d).spec
    let few := commit .reset (load .z1 2 [wait 9]) 40
    let running := commit (channelIn .running [record .wait 9] (.timed 9)) (load .z1 1 [wait 9]) 39
    let halted := commit (channelIn .halted [record .wait 9] (.timed 9)) (load .z1 1 [wait 9]) 39
    let bake := (commit .reset (load .ov 1 [(record (.bake .base 30) 0).spec]) 40).withOvr
      { kitchen.ovr with fault := true, errorCounter := 16 }
    let untimed := commit .reset (load .z1 2 [wait 0, wait 0]) 40
    let full := commit (channelIn .done [record .wait 9] (.timed 0)) (load .z1 2 [wait 9, wait 9]) 0
    free kitchen ∧ kitchen.cfg.part ≠ .locked ∧ kitchen.pst.load = none ∧
      (free few ∧ few.pst.load.map (fun l => (l.staged.length, l.expected)) = some (1, 2)) ∧
      (running.chan .z1).state = .running ∧ (halted.chan .z1).state = .halted ∧
      ((bake.chan .ov).state = .empty ∧ bake.ovr.fault = true ∧
        ∃ p ∈ [(record (.bake .base 30) 0).spec], ∃ m t, p.kind = .bake m t) ∧
      ((untimed.chan .z1).state = .empty ∧ ∃ i : Nat, i + 1 < [wait 0, wait 0].length ∧
        ([wait 0, wait 0][i]?).map (fun p => p.duration) = some 0) ∧
      ((full.chan .z1).state = .done ∧ full.pst.free + (full.chan .z1).plan.length < 2 ∧
        ¬ ∃ i : Nat, i + 1 < [wait 9, wait 9].length ∧
          ([wait 9, wait 9][i]?).map (fun p => p.duration) = some 0) := by
  refine ⟨rfl, by decide, rfl, ⟨rfl, rfl⟩, rfl, rfl, ⟨rfl, rfl, ?_⟩, ⟨rfl, 0, by decide, rfl⟩, rfl,
    by decide, ?_⟩
  · exact ⟨_, List.mem_singleton.2 rfl, _, _, rfl⟩
  · rintro ⟨i, hi, h⟩
    match i, hi with
    | 0, _ => exact absurd h (by decide)

/-- The load of Table 1-6, with just as many records available as needed. -/
theorem witness_CommitMakesTheChannelReady :
    let s := staged.withPst { staged.pst with free := 1 }
    free s ∧ s.cfg.part ≠ .locked ∧
      s.pst.load.map (fun l => (l.target, l.staged.length, l.expected)) = some (.z1, 3, 3) ∧
      (s.chan .z1).state = .done ∧ s.ovr.fault = false ∧
      3 ≤ s.pst.free + (s.chan .z1).plan.length ∧
      (∀ i : Nat, i + 1 < 3 → ((staged.pst.load.map (fun l => l.staged)).getD [])[i]?.map
        (fun p => p.duration) ≠ some 0) := by
  refine ⟨rfl, by decide, rfl, rfl, rfl, by decide, ?_⟩
  intro i hi
  match i, hi with
  | 0, _ => decide
  | 1, _ => decide

/-! ### Channel requests -/

theorem witness_ChannelRequestsNeedTheirState :
    (free kitchen ∧ kitchen.cfg.part ≠ .locked) ∧
      (Instr.clear 0 8, (0x1D : Byte), [ChannelState.done, .halted]) ∈ movers 0 8 ∧
      8 ≤ (8 : Byte).toNat ∧
      ((7 : Byte).toNat = channelCode .gr ∧ withoutGrill.cfg.part = .operating ∧
        withoutGrill.cfg.absent.get .gr = true) ∧
      (Named kitchen (byteOf (channelCode .ov)) .ov ∧
        (kitchen.chan .ov).state ∉ [ChannelState.ready]) ∧
      (Named weldKitchen (byteOf (channelCode .z1)) .z1 ∧
        (weldKitchen.chan .z1).state ∉ [ChannelState.ready]) :=
  ⟨⟨rfl, by decide⟩, by decide, by decide, ⟨rfl, rfl, rfl⟩, ⟨named .ov, by decide⟩,
    ⟨rfl, by decide, fun _ => rfl⟩, by decide⟩

theorem works_none (h : OvenHeater) :
    works (kitchen.withOut { kitchen.out with
      heaters := PerHeater.const ⟨false, .watching, 0, true, false⟩ }) h = false := by
  cases h <;> decide

/-- READY on Z1 and on OV, with supply-off, every oven element FAILED, one zone FAILED, the probe fault,
and none of them; and a RUNNING channel in its only stage. -/
theorem witness_StartAndSkipEnterAStage :
    let failed := kitchen.withOut { kitchen.out with
      heaters := PerHeater.const ⟨false, .watching, 0, true, false⟩ }
    let probe := kitchen.withOvr { kitchen.ovr with fault := true, errorCounter := 8 }
    let off := kitchen.withOut { kitchen.out with supplyOff := true }
    (free readyZ1 ∧ (readyZ1.chan .z1).state = .ready) ∧
      NamedToRun readyZ1 (byteOf (channelCode .z1)) .z1 ∧
      (isElectric .z1 = true ∧ off.out.supplyOff = true) ∧
      ((∃ h, hobHeater .z1 = some h ∧ (failed.heaterOut h).failed = true) ∧
        failed.out.supplyOff = false) ∧
      ((∃ h, (failed.install (ovenHeaterAsHeater h)).installed = true) ∧
        ∀ h, works failed h = false) ∧
      (probe.ovr.fault = true ∧ probe.out.supplyOff = false ∧ works probe .top = true) ∧
      (readyZ1.out.supplyOff = false ∧ (readyZ1.heaterOut .hz1).failed = false ∧
        readyZ1.ovr.fault = false) ∧
      (free grill ∧ Named grill (byteOf (channelCode .gr)) .gr ∧ (grill.chan .gr).state = .running ∧
        ((grill.chan .gr).plan[(grill.chan .gr).stageIndex]?).isSome = true) := by
  refine ⟨⟨rfl, rfl⟩, ⟨⟨rfl, by decide, fun _ => rfl⟩, fun _ => rfl⟩, ⟨rfl, rfl⟩,
    ⟨⟨.hz1, rfl, rfl⟩, rfl⟩, ⟨⟨.top, rfl⟩, works_none⟩, ⟨rfl, rfl, rfl⟩, ⟨rfl, rfl, rfl⟩,
    rfl, (named_in .gr .gr _).toNamed, rfl, rfl⟩

/-- Past the last record; a CLEAN-ONLY stage after CUT; a stage of another channel; a WAIT on OV; a BAKE
whose only element is FAILED; one that stays below its target; one at its target with and without
END-ON-TARGET. -/
theorem witness_EnteringAStage :
    let clean : StageSpec := { (record .wait 9).spec with cleanOnly := true }
    let bake (m : Mode) (t : Nat) (stop : Bool) : PoolRecord :=
      { record (.bake m t) 0 with
        spec := { (record (.bake m t) 0).spec with endOnTarget := stop } }
    let oven (p : PoolRecord) : State := putting .ov (channelIn .running [p] .untimed)
    let dead := (oven (bake .base 180 false)).setHeaterOut .hbase
      { kitchen.heaterOut .hbase with failed := true }
    let warm (stop : Bool) : State := (oven (bake .base 171 stop)).withOvr
      { kitchen.ovr with buffer := [171] }
    let b (s : State) (t : Nat) : State :=
      bakeTaken .base t false (s.setChan .ov (entered (s.chan .ov) 0 (bake .base t false).spec))
    (kitchen.chan .z1).plan[0]? = none ∧ (flushed clean .cut ∧ flushed clean .flushed) ∧
      (¬ flushed clean .elapsed ∧ Channel.z1 ≠ .ov) ∧
      (∀ m t, (record .wait 9).spec.kind ≠ .bake m t) ∧
      ((dead.chan .ov).plan[0]? = some (bake .base 180 false) ∧
        failedSet dead (b dead 180).ovr.source .base) ∧
      (¬ failedSet (warm true) (b (warm true) 171).ovr.source .base ∧
        (warm true).tempF = some 171 ∧ ((warm true).chan .ov).plan[0]? = some (bake .base 171 true) ∧
        ((warm false).chan .ov).plan[0]? = some (bake .base 171 false)) ∧
      (oven (bake .base 30 false)).tempF = none := by
  refine ⟨rfl, ⟨⟨rfl, .inl rfl⟩, ⟨rfl, .inr rfl⟩⟩, ⟨?_, by decide⟩, ?_, ⟨rfl, ⟨.base, rfl, rfl⟩, ?_⟩,
    ⟨?_, rfl, rfl, rfl⟩, rfl⟩
  · rintro ⟨-, h | h⟩ <;> cases h
  · intro m t h; cases h
  · intro h; cases h <;> decide
  · intro h; exact absurd (h.2 .base rfl rfl) (by decide)

/-- One channel in each state. -/
theorem witness_PauseResumeStopAndClear :
    let at' (st : ChannelState) (c : Channel) : State :=
      putting c (channelIn st [record .wait 9] (.timed 9))
    (free (at' .running .z1) ∧ Named (at' .running .z1) (byteOf (channelCode .z1)) .z1 ∧
        ((at' .running .z1).chan .z1).state = .running) ∧
      (Named (at' .paused .ov) (byteOf (channelCode .ov)) .ov ∧
        ((at' .paused .ov).chan .ov).state = .paused) ∧
      (Named kitchen (byteOf (channelCode .gr)) .gr ∧ (kitchen.chan .gr).state = .empty) ∧
      ((at' .ready .b1).chan .b1).state = .ready ∧ ((at' .done .b4).chan .b4).state = .done ∧
      ((at' .halted .gr).chan .gr).state = .halted :=
  ⟨⟨rfl, (named_in .z1 .z1 _).toNamed, rfl⟩, ⟨(named_in .ov .ov _).toNamed, rfl⟩,
    ⟨named .gr, rfl⟩, rfl, rfl, rfl⟩

theorem witness_StopAllEmptiesEverything :
    let lit := frame1.withBsv { frame1.bsv with
      burners := frame1.bsv.burners.set .n2 { frame1.burner .n2 with
        knob := .opened, state := .igniting }
      owner := some .n2 }
    free frame1 ∧ (inPart .locked).cfg.part = .locked ∧ free (inPart .locked) ∧
      frame1.cfg.part ≠ .locked ∧ frame1.bsv.owner = none ∧
      (lit.bsv.owner = some .n2 ∧ (lit.burner .n2).state ≠ .off) ∧
      (hobHeater .z1 = some .hz1 ∧ (frame1.chan .z1).level ≠ 0 ∧ (frame1.heater .hz1).hold = .none ∧
        frame1.pfs.sched = .running ∧ (frame1.heater .hz1).requested ≠ 0 ∧
        (frame1.heater .hz1).placed.get frame1.pfs.slot = true) ∧
      ((frame1.install .htop).installed = true ∧ (frame1.install .htop).rank ≤ 6 ∧
        frame1.ovr.handed.top ≠ 0 ∧ (frame1.heater .htop).requested ≠ 0 ∧
        (frame1.heater .htop).hold = .none) := by
  unfold free; decide

/-- Code 8; ABSENT; the adjustment codes 3 and 255; each range just past its two ends; EMPTY; and a stage
that does not suit. -/
theorem witness_AdjustsAreCheckedInOrder :
    let untimed := putting .z1 (channelIn .running [record (.level 3) 0] .untimed)
    let wait := putting .ov (channelIn .paused [record .wait 9] (.timed 9))
    (free kitchen ∧ kitchen.cfg.part ≠ .locked ∧ 8 ≤ (8 : Byte).toNat ∧
        withoutGrill.cfg.absent.get .gr = true) ∧
      (3 ≤ (3 : Byte).toNat ∧ 3 ≤ (255 : Byte).toNat ∧ [(0 : Byte), 0, 5].length = 3) ∧
      (Named kitchen (byteOf (channelCode .z1)) .z1 ∧ (kitchen.chan .z1).state = .empty) ∧
      (¬ (-86399 ≤ (86400 : BitVec 24).toInt ∧ (86400 : BitVec 24).toInt ≤ 86399) ∧
        ¬ (-86399 ≤ (BitVec.ofInt 24 (-86400)).toInt) ∧
        (-86399 ≤ (BitVec.ofInt 24 (-86399)).toInt ∧ (86399 : BitVec 24).toInt ≤ 86399)) ∧
      (¬ (1 ≤ (0 : BitVec 24).toNat) ∧ ¬ ((13 : BitVec 24).toNat ≤ 12) ∧
        ¬ (30 ≤ (29 : BitVec 24).toNat) ∧ ¬ ((276 : BitVec 24).toNat ≤ 275)) ∧
      (Named untimed (byteOf (channelCode .z1)) .z1 ∧ (untimed.chan .z1).state = .running ∧
        (untimed.chan .z1).plan[0]? = some (record (.level 3) 0) ∧
        ¬ ∃ n, (untimed.chan .z1).remaining = .timed n) ∧
      ((wait.chan .ov).state = .paused ∧ ¬ (∃ n, (record .wait 9).spec.kind = .level n) ∧
        ¬ ∃ m t, (record .wait 9).spec.kind = .bake m t) := by
  refine ⟨⟨rfl, by decide, by decide, rfl⟩, by decide, ⟨named .z1, rfl⟩, by decide, by decide,
    ⟨(named_in .z1 .z1 _).toNamed, rfl, rfl, ?_⟩, rfl, ?_, ?_⟩
  · rintro ⟨n, h⟩; cases h
  · rintro ⟨n, h⟩; cases h
  · rintro ⟨m, t, h⟩; cases h

/-- The ramp of Table 2-4 and the ends of the range. -/
theorem witness_AdjustTimeMovesTheStageEnd :
    free (ramping 400) ∧ Named (ramping 400) (byteOf (channelCode .z1)) .z1 ∧
      ((ramping 400).chan .z1).state = .running ∧
      ((ramping 400).chan .z1).remaining = .timed 400 ∧
      ((ramping 400).chan .z1).plan[((ramping 400).chan .z1).stageIndex]? =
        some (record (.ramp 3 9 120) 650) ∧
      -86399 ≤ (BitVec.ofInt 24 (-86399)).toInt ∧ (86399 : BitVec 24).toInt ≤ 86399 :=
  ⟨rfl, (named_in .z1 .z1 _).toNamed, rfl, rfl, rfl, by decide, by decide⟩

/-- A LEVEL stage with levels 1 and 12, and a BAKE stage with setpoints 30 and 275. -/
theorem witness_AdjustLevelAndSetpointAct :
    let level := putting .z1 (channelIn .running [record (.level 3) 0] .untimed)
    let bake := putting .ov (channelIn .paused [record (.bake .top 180) 9] (.timed 9))
    (free level ∧ Named level (byteOf (channelCode .z1)) .z1 ∧ (level.chan .z1).state = .running ∧
        (level.chan .z1).plan[(level.chan .z1).stageIndex]? = some (record (.level 3) 0)) ∧
      (1 ≤ (1 : BitVec 24).toNat ∧ (12 : BitVec 24).toNat ≤ 12) ∧
      (free bake ∧ Named bake (byteOf (channelCode .ov)) .ov ∧ (bake.chan .ov).state = .paused ∧
        (bake.chan .ov).plan[(bake.chan .ov).stageIndex]? = some (record (.bake .top 180) 9)) ∧
      (30 ≤ (30 : BitVec 24).toNat ∧ (275 : BitVec 24).toNat ≤ 275) :=
  ⟨⟨rfl, (named_in .z1 .z1 _).toNamed, rfl, rfl⟩, by decide,
    ⟨rfl, (named_in .ov .ov _).toNamed, rfl, rfl⟩, by decide⟩

/-- A channel without a level; levels 13, 0, 1 and 12; and each channel state, RUNNING in a LEVEL stage
and in another. -/
theorem witness_QuickLevelSetsAZone :
    let at' (st : ChannelState) (p : PoolRecord) : State := putting .z1 (channelIn st [p] .untimed)
    (free kitchen ∧ NamedToRun kitchen (byteOf (channelCode .ov)) .ov ∧ hobHeater .ov = none) ∧
      (hobHeater .z1 = some .hz1 ∧ 13 ≤ (13 : Byte).toNat ∧ (0 : Byte).toNat = 0 ∧
        1 ≤ (1 : Byte).toNat ∧ (12 : Byte).toNat ≤ 12) ∧
      (NamedToRun kitchen (byteOf (channelCode .z1)) .z1 ∧ (kitchen.chan .z1).state = .empty) ∧
      (NamedToRun (at' .running (record (.level 3) 0)) (byteOf (channelCode .z1)) .z1 ∧
        ((at' .running (record (.level 3) 0)).chan .z1).state = .running ∧
        ((at' .running (record (.level 3) 0)).chan .z1).plan[0]? = some (record (.level 3) 0)) ∧
      (((at' .running (record .wait 0)).chan .z1).plan[0]? = some (record .wait 0) ∧
        ∀ old, (record .wait 0).spec.kind ≠ .level old) ∧
      ((at' .ready (record .wait 0)).chan .z1).state = .ready ∧
      ((at' .done (record .wait 0)).chan .z1).state = .done ∧
      ((at' .paused (record .wait 0)).chan .z1).state = .paused ∧
      ((at' .halted (record .wait 0)).chan .z1).state = .halted ∧ NamedToRun weldKitchen (byteOf (channelCode .z1)) .z1 ∧
      (weldKitchen.chan .z1).state = .halted := by
  refine ⟨⟨rfl, named_to_run .ov, rfl⟩, by decide, ⟨named_to_run .z1, rfl⟩,
    ⟨named_in .z1 .z1 _, rfl, rfl⟩, ⟨rfl, ?_⟩, rfl, rfl, rfl, rfl, ⟨⟨rfl, by decide, fun _ => rfl⟩, fun _ => rfl⟩, rfl⟩
  intro old h; cases h

/-! ### Reading and notices -/

theorem witness_ReadChannelShowsTheChannel :
    free frame1 ∧ frame1.cfg.part ≠ .locked ∧ 8 ≤ (8 : Byte).toNat ∧
      ((7 : Byte).toNat = channelCode .gr ∧ withoutGrill.cfg.part = .operating ∧
        withoutGrill.cfg.absent.get .gr = true) ∧
      (Named readyZ1 (byteOf (channelCode .z1)) .z1 ∧ (readyZ1.chan .z1).state = .ready ∧
        (readyZ1.chan .z1).plan ≠ []) ∧
      (Named kitchen (byteOf (channelCode .b4)) .b4 ∧ (kitchen.chan .b4).state = .empty) :=
  ⟨rfl, by decide, by decide, ⟨rfl, rfl, rfl⟩, ⟨⟨rfl, by decide, fun _ => rfl⟩, rfl, by decide⟩,
    named .b4, rfl⟩

/-- Code 8; ABSENT; the last record and the index past it; the cursor unset, at the last record but one
and at the last; heater codes 5 and 6. -/
theorem witness_ReadStageAndReadFrame :
    let cursor (i : Nat) : State := grill.withPlr { grill.plr with cursor := some (.gr, i) }
    (free grill ∧ grill.cfg.part ≠ .locked ∧ 8 ≤ (8 : Byte).toNat ∧
        withoutGrill.cfg.absent.get .gr = true) ∧
      (Named grill (byteOf (channelCode .gr)) .gr ∧ (grill.chan .gr).plan[(4 : Byte).toNat]? = none ∧
        ((grill.chan .gr).plan[(3 : Byte).toNat]?).isSome = true) ∧
      grill.plr.cursor = none ∧
      ((cursor 3).plr.cursor = some (.gr, 3) ∧ ((cursor 3).chan .gr).plan[3 + 1]? = none) ∧
      (((cursor 2).chan .gr).plan[2 + 1]?).isSome = true ∧
      (6 ≤ (6 : Byte).toNat ∧ (5 : Byte).toNat = heaterCode .hgrill) :=
  ⟨⟨rfl, by decide, by decide, rfl⟩, ⟨(named_in .gr .gr _).toNamed, rfl, rfl⟩, rfl, ⟨rfl, rfl⟩, rfl,
    by decide⟩

/-- Maximum counts 0, 1, 5 and 6; re-arm 1 and 2; a running and a stopped spacing timer. -/
theorem witness_NoticesAreQueuedAndFetched :
    (free kitchen ∧ kitchen.cfg.part ≠ .locked) ∧
      (¬ (1 ≤ (0 : Byte).toNat) ∧ ¬ ((6 : Byte).toNat ≤ 5) ∧ 1 ≤ (1 : Byte).toNat ∧
        (5 : Byte).toNat ≤ 5) ∧
      (2 ≤ (2 : Byte).toNat ∧ (1 : Byte).toNat ≤ 1) ∧
      (kitchen.withNtq { kitchen.ntq with spacing := some 0 }).ntq.spacing = some 0 ∧
      kitchen.ntq.spacing = none := by
  unfold free; decide

/-! ### The seconds of a channel -/

/-- An untimed stage; remaining 1, 2 and a boundary; a stopped timer; a pause timer at 1 and at 2. -/
theorem witness_SecondsRunTheStage :
    let pause (left : Nat) : State := putting .gr
      { channelIn .paused [record (.level 10) 600] (.timed 200) with
        pauseTimer := some { left := left, phase := 999 } }
    ((cooking.chan .z1).state = .running ∧ (cooking.chan .z1).secondTimer = some 0 ∧
        (cooking.chan .z1).remaining = .untimed) ∧
      (((ramping 1).chan .z1).plan[((ramping 1).chan .z1).stageIndex]? =
          some (record (.ramp 3 9 120) 650) ∧ ((ramping 1).chan .z1).remaining = .timed 1) ∧
      (2 ≤ 2 ∧ ¬ ∃ a b l, (record (.ramp 3 9 120) 650).spec.kind = .ramp a b l ∧
        ((ramping 2).chan .z1).segIndex + 1 < ((ramping 2).chan .z1).segCount ∧
        2 - 1 = (650 - (((ramping 2).chan .z1).segCount - 1) * l) +
          (((ramping 2).chan .z1).segCount - 2 - ((ramping 2).chan .z1).segIndex) * l) ∧
      (∃ a b l, (record (.ramp 3 9 120) 650).spec.kind = .ramp a b l ∧
        ((ramping 291).chan .z1).segIndex + 1 < ((ramping 291).chan .z1).segCount ∧
        291 - 1 = (650 - (((ramping 291).chan .z1).segCount - 1) * l) +
          (((ramping 291).chan .z1).segCount - 2 - ((ramping 291).chan .z1).segIndex) * l) ∧
      ((kitchen.chan .z1).state ≠ .running ∧ (kitchen.chan .z1).pauseTimer = none) ∧
      (((pause 2).chan .gr).pauseTimer = some { left := 2, phase := 999 } ∧
        ((pause 1).chan .gr).pauseTimer = some { left := 1, phase := 999 } ∧
        (((pause 1).chan .gr).plan[((pause 1).chan .gr).stageIndex]?).isSome = true) := by
  refine ⟨⟨rfl, rfl, rfl⟩, ⟨rfl, rfl⟩, ⟨by decide, ?_⟩, ⟨3, 9, 120, rfl, by decide, by decide⟩,
    ⟨by decide, rfl⟩, rfl, rfl, rfl⟩
  rintro ⟨a, b, l, h, -, g⟩
  cases h
  exact absurd g (by decide)

/-- Up, down and level ramps of 2 segments, and the last two segments of 64. -/
theorem witness_RampLevelsStepEvenly :
    2 ≤ 2 ∧ (0 ≤ 12 ∧ ¬ 12 < 0) ∧ 0 < 12 ∧ (62 ≤ 63 ∧ 63 ≤ 64 - 1) := by decide

/-- A level to hand; a permit that agrees, one to return and one to withdraw, from a burning and from a
closed burner. -/
theorem witness_EventsHandOnLevelsAndPermits :
    let done := putting .b1 (channelIn .done [record .flame 9] (.timed 0))
    let burning := done.setBurner .n1 { done.burner .n1 with knob := .opened, state := .burning }
    let returned := kitchen.setBurner .n4 { kitchen.burner .n4 with permit := false }
    hobHeater .gr = some .hgrill ∧ channelBurner .b1 = some .n1 ∧
      (kitchen.burner .n1).permit = (decide ((kitchen.chan .b1).state ≠ .done) &&
        decide ((kitchen.chan .b1).state ≠ .halted)) ∧
      ((returned.burner .n4).permit = false ∧ (returned.chan .b4).state = .empty) ∧
      ((burning.burner .n1).permit = true ∧ (burning.chan .b1).state = .done ∧
        (burning.burner .n1).state = .burning) ∧
      ((done.burner .n1).permit = true ∧ (done.chan .b1).state = .done ∧
        (done.burner .n1).state = .off) := by decide

/-! ### The power frame -/

/-- A held heater, each scheduler state, and each class of change. -/
theorem witness_DemandChangesAreClassed :
    let held := frame1.setHeater .hz1 { frame1.heater .hz1 with hold := .failed }
    (held.heater .hz1).hold ≠ .none ∧ State.reset.pfs.sched = .stopped ∧
      ((kitchen.heater .hz1).hold = .none ∧ kitchen.pfs.sched = .starting) ∧
      ((frame1.heater .hz1).hold = .none ∧ frame1.pfs.sched = .running ∧
        (frame1.heater .hz1).requested = 24 ∧ 0 < (frame1.heater .hz1).requested) ∧
      ((frame1.heater .hgrill).hold = .none ∧ (frame1.heater .hgrill).requested = 0) := by decide

/-- The walk of HBASE in Table 3-7, and the two ends of the slots. -/
theorem witness_WalksTakeTheFirstSlotsThatFit :
    (frameWalk 24).Nodup ∧ (lateWalk 30).Nodup ∧ 0 < 32 ∧ 31 < 32 := by decide

/-- Not running; slot 31; slot 30; and boundaries at which one of the cooling fan's commands changes and
at which none does. -/
theorem witness_SlotBoundarySetsTheCommands :
    let slot (i : Fin 32) : State := frame1.withPfs { frame1.pfs with slot := i }
    kitchen.pfs.sched ≠ .running ∧ (slot 31).pfs.slot.val = 31 ∧
      ((slot 30).pfs.sched = .running ∧ (slot 30).pfs.slot.val < 31) ∧
      (feedsCoolingFan .htop = true ∧
        ((slot 1).heater .htop).relay ≠ ((after .slotBoundary (slot 1)).heater .htop).relay) ∧
      (∀ h, feedsCoolingFan h = true →
        ((slot 0).heater h).relay = ((after .slotBoundary (slot 0)).heater h).relay) := by
  refine ⟨by decide, rfl, by decide, by decide, ?_⟩
  intro h; cases h <;> decide

theorem rank_bound (h : Heater) : (cooking.install h).rank ≤ 6 := by cases h <;> decide

/-- STOPPED and STARTING; HBASE promoted before the others, in rank order. -/
theorem witness_FrameBoundaryPlacesTheHeaters :
    let s := cooking.setHeater .hbase { cooking.heater .hbase with starve := 3 }
    let a := frameOven (openFrame s)
    let others : List Heater := [.hz1, .hz2, .hring, .htop, .hgrill]
    State.reset.pfs.sched = .stopped ∧ s.pfs.sched ≠ .stopped ∧ (∀ h, (s.install h).rank ≤ 6) ∧
      (∀ h, h ∈ [Heater.hbase] ↔ (s.install h).installed = true ∧ (a.heater h).starve = 3) ∧
      (∀ h, h ∈ others ↔ (s.install h).installed = true ∧ (a.heater h).starve ≠ 3) ∧
      others.Pairwise (fun g h => (s.install g).rank < (s.install h).rank) ∧
      (State.reset.install .hz1).installed = false := by
  refine ⟨rfl, by decide, rank_bound, ?_, ?_, by decide, rfl⟩
  · intro h; cases h <;> decide
  · intro h; cases h <;> decide

/-- No pending switch; a pending one; and one to a set that is empty by failure. -/
theorem witness_FrameBoundaryAsksTheOven :
    let pending := cooking.withOvr { cooking.ovr with source := .boost, boostEndPending := true }
    let dead := pending.withOut { pending.out with
      heaters := PerHeater.const ⟨false, .watching, 0, true, false⟩ }
    cooking.ovr.boostEndPending = false ∧
      (pending.ovr.boostEndPending = true ∧
        ¬ failedSet (openFrame pending) .mode (openFrame pending).ovr.mode) ∧
      (dead.ovr.boostEndPending = true ∧ (openFrame dead).ovr.context = .bake ∧
        failedSet (openFrame dead) .mode (openFrame dead).ovr.mode ∧
        ((openFrame dead).chan .ov).state = .running) := by
  refine ⟨rfl, ⟨rfl, fun h => ?_⟩, rfl, rfl, ⟨⟨.top, rfl, rfl⟩, ?_⟩, rfl⟩
  · exact absurd (h.2 .top rfl rfl) (by decide)
  · intro h; cases h <;> decide

/-! ### The oven -/

/-- An empty and a filled buffer; a cavity at its setpoint and one degree below; the ring with the door
open. -/
theorem witness_OvenDemandIsProportional :
    let at' (f : Nat) : State := cooking.withOvr { cooking.ovr with buffer := [f] }
    kitchen.ovr.buffer = [] ∧ cooking.ovr.buffer ≠ [] ∧
      ¬ ((kitchen.chan .ov).state = .running ∧ kitchen.ovr.context = .bake ∧
        kitchen.ovr.mode ≠ .defrost) ∧
      ((cooking.chan .ov).state = .running ∧ cooking.ovr.context = .bake ∧
        cooking.ovr.mode ≠ .defrost) ∧
      (cooking.ovr.active.get .top = true ∧
        ¬ (OvenHeater.top = .ring ∧ cooking.ovr.doorState = .opened)) ∧
      ((at' 180).tempF = some 180 ∧ (at' 180).ovr.setpoint ≤ 180) ∧
      ((at' 179).tempF = some 179 ∧ 179 < (at' 179).ovr.setpoint ∧ 0 < (at' 179).cfg.band) := by
  decide

theorem witness_EventsHandOnTheOven :
    let order : List OvenHeater := [.ring, .top, .base]
    (∀ h, (cooking.install h).rank ≤ 6) ∧
      (∀ h, h ∈ order ↔ (cooking.install (ovenHeaterAsHeater h)).installed = true) ∧
      order.Pairwise (fun g h => (cooking.install (ovenHeaterAsHeater g)).rank <
        (cooking.install (ovenHeaterAsHeater h)).rank) := by
  refine ⟨rank_bound, ?_, by decide⟩
  intro h; cases h <;> decide

/-- Readings −1, 0, 330 and 331; counters just short of 8 and at it, with OV running and not; a fault; a
stopped probe timer. -/
theorem witness_ProbeReadingsAreTaken :
    let at' (s : State) (n : Nat) (fault : Bool) : State :=
      s.withOvr { s.ovr with errorCounter := n, fault := fault, probeTimer := some 0 }
    let stopped := kitchen.withOvr { kitchen.ovr with probeTimer := none }
    cooking.ovr.buffer.length ≤ 4 ∧ stopped.ovr.probeTimer = none ∧
      (at' cooking 5 false).ovr.probeTimer = some 0 ∧
      ((-1 : Int) < 0 ∧ (330 : Int) < 331 ∧ (0 : Int) ≤ 0 ∧ (330 : Int) ≤ 330) ∧
      (at' cooking 16 true).ovr.fault = true ∧
      min 16 ((at' cooking 5 false).ovr.errorCounter + 2) < 8 ∧
      ((at' cooking 6 false).ovr.fault = false ∧
        8 ≤ min 16 ((at' cooking 6 false).ovr.errorCounter + 2) ∧
        ((at' cooking 6 false).chan .ov).state = .running) ∧
      ((at' kitchen 6 false).ovr.fault = false ∧
        ¬ (((at' kitchen 6 false).chan .ov).state = .running ∨
          ((at' kitchen 6 false).chan .ov).state = .paused)) := by decide

/-- T_f one below and at the setpoint, and one below and at the overshoot limit. -/
theorem witness_TargetAndOvershootAct :
    let at' (f : Nat) : State := frame1.withOvr { frame1.ovr with buffer := [f] }
    let off := cooking.withOvr { cooking.ovr with buffer := [200] }
    (∀ h, (frame1.install h).rank ≤ 6) ∧
      ¬ ((kitchen.chan .ov).state = .running ∧ kitchen.ovr.context = .bake) ∧
      ((frame1.chan .ov).state = .running ∧ frame1.ovr.context = .bake) ∧
      ((at' 179).tempF = some 179 ∧ 179 < (at' 179).ovr.setpoint) ∧
      ((at' 180).tempF = some 180 ∧ (at' 180).ovr.setpoint ≤ 180 ∧
        ((at' 180).chan .ov).plan[((at' 180).chan .ov).stageIndex]? =
          some (record (.bake .conventional 180) 3600)) ∧
      199 < (at' 199).ovr.setpoint + (at' 199).cfg.overshoot ∧
      ((at' 200).ovr.setpoint + (at' 200).cfg.overshoot ≤ 200 ∧
        ((at' 200).install .htop).installed = true ∧ (at' 200).ovr.handed.get .top ≠ 0) ∧
      (off.tempF = some 200 ∧ ∀ h, (off.install (ovenHeaterAsHeater h)).installed = true →
        off.ovr.handed.get h = 0) := by
  refine ⟨?_, by decide, by decide, by decide, by decide, by decide, by decide, rfl, ?_⟩
  · intro h; cases h <;> decide
  · intro h _; cases h <;> rfl

theorem witness_DoorIsFollowed :
    let open' := after .doorOpened kitchen
    DoorPos.shut = kitchen.pins.door ∧ DoorPos.opened ≠ kitchen.pins.door ∧
      kitchen.out.locked = false ∧ kitchen.ovr.doorState = .shut ∧ open'.ovr.doorState = .opened ∧
      open'.out.locked = false ∧ (kitchen.withOut { kitchen.out with locked := true }).out.locked :=
  ⟨rfl, by decide, rfl, rfl, rfl, rfl, rfl⟩

/-! ### The burners -/

/-- A closed knob with and without its permit, and an open one with its channel in DONE. -/
theorem witness_KnobsAreFollowed :
    let done := putting .b1 (channelIn .done [record .flame 9] (.timed 0))
    let waiting := after (.knobOpened .n1) (done.setBurner .n1
      { done.burner .n1 with permit := false })
    KnobPos.closed = kitchen.pins.knob.get .n1 ∧ KnobPos.opened ≠ kitchen.pins.knob.get .n1 ∧
      kitchen.out.locked = false ∧ (kitchen.withOut { kitchen.out with locked := true }).out.locked ∧
      ((kitchen.burner .n1).knob = .closed ∧ (kitchen.burner .n1).permit = true) ∧
      ((waiting.burner .n1).knob = .opened ∧ (waiting.burner .n1).permit = false ∧
        (waiting.chan .b1).state = .done) := by decide

/-- A free generator with a queue; a resting one; a burner in its gap and one not. -/
theorem witness_GeneratorIsGrantedInTurn :
    let free' := kitchen.withBsv { kitchen.bsv with
      burners := kitchen.bsv.burners.set .n1 { kitchen.burner .n1 with
        knob := .opened, state := .queued }
      queue := [.n1] }
    let resting := free'.withBsv { free'.bsv with rest := some 0 }
    let gap := kitchen.setBurner .n2 { kitchen.burner .n2 with
      knob := .opened, state := .retryGap, gap := some 0 }
    (opened3.bsv.owner ≠ none ∧ resting.bsv.rest = some 0 ∧ kitchen.bsv.queue = []) ∧
      (free'.bsv.owner = none ∧ free'.bsv.rest = none ∧ free'.bsv.queue = [.n1] ∧
        (free'.burner .n1).state = .queued) ∧
      kitchen.bsv.rest = none ∧
      ((gap.burner .n2).state = .retryGap ∧ (gap.burner .n2).gap = some 0) ∧
      (kitchen.burner .n2).state ≠ .retryGap := by decide

/-- An igniting burner that proves or fails; a burning one with its flame gone; a hold tail. -/
theorem witness_FlamesAreProvenAndWatched :
    let proving := after (.flameSenseChange .n3 true) opened3
    let lost := kitchen.setBurner .n2 { kitchen.burner .n2 with
      knob := .opened, state := .burning, flameLoss := .running 1000, losses := 3 }
    let tail := kitchen.withBsv { kitchen.bsv with hold := .tail 0 }
    ((proving.burner .n3).state = .igniting ∧ (proving.burner .n3).proving = some 0) ∧
      (opened3.burner .n3).proving = none ∧
      ((opened3.burner .n3).state = .igniting ∧ (opened3.burner .n3).attemptTimer = some 4000) ∧
      (kitchen.burner .n3).state ≠ .igniting ∧
      ((lost.burner .n2).state = .burning ∧ (lost.burner .n2).flameLoss = .running 1000 ∧
        lost.pins.flame.get .n2 = false) ∧
      (kitchen.burner .n2).state ≠ .burning ∧ tail.bsv.hold = .tail 0 ∧
      (∀ k, kitchen.bsv.hold ≠ .tail k) := by
  refine ⟨by decide, by decide, by decide, by decide, by decide, by decide, rfl, ?_⟩
  intro k h; cases h

/-! ### The output stage -/

theorem witness_LoadsAreWatched :
    let settling := kitchen.setHeaterOut .hz1 { kitchen.heaterOut .hz1 with check := .settling 0 }
    (settling.heaterOut .hz1).check = .settling 0 ∧
      (∀ k, (kitchen.heaterOut .hz1).check ≠ .settling k) ∧ disagrees kitchen .hz1 = false := by
  refine ⟨rfl, ?_, rfl⟩
  intro k h; cases h

/-- Frame 1 with every heater WATCHING. -/
def watched : State :=
  frame1.withOut { frame1.out with
    heaters := frame1.out.heaters.map (fun _ r => { r with check := .watching }) }

theorem power_watched : PowerInv watched where
  load := fun _ => by decide +kernel
  relay := by intro h; cases h <;> decide
  operating := by decide
  contactor := by decide
  closed := by decide
  configuring := by decide
  failed := by intro h; cases h <;> decide
  supply := fun h => absurd h (by decide)
  held := by intro h; cases h <;> decide
  unplaced := by intro h; cases h <;> decide
  asked := by intro _ h; cases h <;> decide
  ranks := by intro h; cases h <;> decide

/-- The same with HBASE FAILED and held. -/
def halfDead : State :=
  (watched.setHeater .hbase { watched.heater .hbase with
    hold := .failed, requested := 0, frame := 0, placed := noSlots, granted := 0
    relay := false }).setHeaterOut .hbase
    { watched.heaterOut .hbase with failed := true, drive := false }

theorem power_halfDead : PowerInv halfDead where
  load := fun _ => by decide +kernel
  relay := by intro h; cases h <;> decide
  operating := by decide
  contactor := by decide
  closed := by decide
  configuring := by decide
  failed := by intro h; cases h <;> decide
  supply := fun h => absurd h (by decide)
  held := by intro h; cases h <;> decide
  unplaced := by intro h; cases h <;> decide
  asked := by intro _ h; cases h <;> decide
  ranks := by intro h; cases h <;> decide

/-- HZ1 and HTOP commanded on and dead while Z1 runs and OV bakes, with HBASE left; and HTOP again with
HBASE FAILED before it. -/
theorem witness_OpenElementIsFailed :
    (PowerInv watched ∧ watched.out.contactor = .closed) ∧
      (disagrees watched .hz1 = true ∧ (watched.heater .hz1).relay = true ∧
        hobHeater .z1 = some .hz1 ∧ (watched.chan .z1).state = .running) ∧
      (disagrees watched .htop = true ∧ (watched.heater .htop).relay = true ∧
        asOvenHeater .htop = some .top ∧ watched.ovr.context = .bake ∧
        (watched.chan .ov).state = .running) ∧
      PowerInv halfDead ∧
      (let s := halfDead
      let off := (s.setHeater .htop { s.heater .htop with
          hold := .failed, requested := 0, frame := 0, placed := noSlots, granted := 0
          relay := false }).setHeaterOut .htop
        { s.heaterOut .htop with drive := false, failed := true, check := .settling 200, run := 0 }
      let v := raise { kind := .heater, subject := 2, detail1 := 1, detail2 := 0 }
        (evalCoolingFan off)
      let w := v.withOvr { v.ovr with handed := v.ovr.handed.set .top 0 }
      disagrees s .htop = true ∧ s.out.contactor = .closed ∧ (s.heater .htop).relay = true ∧
        s.ovr.context = .bake ∧ (s.chan .ov).state = .running ∧
        failedSet w s.ovr.source s.ovr.mode) := by
  refine ⟨⟨power_watched, rfl⟩, by decide, by decide, power_halfDead, by decide, rfl, by decide, rfl,
    rfl, ⟨.top, rfl, rfl⟩, ?_⟩
  intro h; cases h <;> decide

/-- HZ2 live while commanded off, in the same frame. -/
theorem witness_WeldOpensTheContactor :
    let s := watched.withPins { watched.pins with loadSense := watched.pins.loadSense.set .hz2 true }
    PowerInv s ∧ disagrees s .hz2 = true ∧ s.out.contactor = .closed ∧
      (s.heater .hz2).relay = false ∧ (s.install .hgrill).installed = true ∧
      s.ntq.frozen = false ∧ s.ntq.queue.length + 6 ≤ 16 ∧
      (kitchen.install .hz1).installed = true ∧ (State.reset.install .hz1).installed = false := by
  refine ⟨?_, by decide⟩
  exact ⟨power_watched.load, power_watched.relay, power_watched.operating, power_watched.contactor,
    power_watched.closed, power_watched.configuring, power_watched.failed, power_watched.supply,
    power_watched.held, power_watched.unplaced, power_watched.asked, power_watched.ranks⟩

theorem witness_LiveContactorLocksThePart :
    let s := kitchen.withOut { kitchen.out with
      contactor := .opened, supplyOff := true, check := true, proving := some 0 }
    let t := s.withPins { s.pins with loadSense := s.pins.loadSense.set .hz1 true }
    disagrees t .hz1 = true ∧ t.out.contactor = .opened := by decide

/-! ### What every step keeps -/

/-- A burner igniting, the oven baking and a STOP of Z1 waiting. -/
def busy : State :=
  let s := after (.knobOpened .n3) cooking
  s.withPending [.stop 0 4]

theorem busy_steps : ∃ t, step busy = .next t := ⟨_, rfl⟩

theorem witness_PoolIsConserved : PoolInv busy ∧ ∃ t, step busy = .next t := by
  refine ⟨⟨rfl, ?_, ?_, ?_⟩, busy_steps⟩
  · intro c; cases c <;> decide
  · intro c; cases c <;> decide
  · intro l h; cases h

theorem witness_TimesStayWithinDurations : TimeInv busy ∧ ∃ t, step busy = .next t := by
  refine ⟨⟨?_, ?_, ?_⟩, busy_steps⟩
  · intro c p hp n hn
    cases c <;> cases hp <;> cases hn
    decide
  · intro c; cases c <;> decide
  · intro l h; cases h

/-- A full queue, and the counter at its highest with the fault set. -/
theorem witness_QueueAndProbeStayInRange :
    let s := (busy.withNtq { busy.ntq with
      queue := List.replicate 16 { kind := .probe, subject := 6, detail1 := 1, detail2 := 8 }
      attn := true }).withOvr { busy.ovr with
        errorCounter := 16, fault := true, buffer := [330, 330, 330, 330] }
    NoticeInv s ∧ ProbeInv s ∧ ∃ t, step s = .next t :=
  ⟨⟨by decide, by decide⟩, ⟨by decide, by decide, by decide, by decide⟩, ⟨_, rfl⟩⟩

theorem burners_busy : BurnerInv busy := by
  refine ⟨?_, by decide, ?_, ?_⟩ <;> intro n <;> cases n <;> decide

theorem witness_BurnersKeepTheirOrder : BurnerInv busy ∧ ∃ t, step busy = .next t :=
  ⟨burners_busy, busy_steps⟩

theorem witness_PowerStaysWithinTheBudget :
    PowerInv watched ∧ ∃ t, step watched = .next t :=
  ⟨power_watched, _, rfl⟩

/-- The part just after its entry to LOCKED, with a request waiting. -/
def lockedPart : State :=
  let s := kitchen.withOut { kitchen.out with
    contactor := .opened, supplyOff := true, check := true, proving := some 0 }
  (after (.persistenceRunExpiry .hz1 [])
    (s.withPins { s.pins with loadSense := s.pins.loadSense.set .hz1 true })).withPending [.status 0]

theorem witness_LockedIsKeptUntilPowerOn :
    LockedInv lockedPart ∧ lockedPart.cfg.part = .locked ∧
      (∀ p rest, lockedPart.pending ≠ Instr.powerOnReset p :: rest) ∧
      ∃ t, step lockedPart = .next t := by
  refine ⟨⟨fun _ => ⟨?_, rfl, ?_, rfl, rfl, rfl, rfl, rfl⟩, fun _ => ⟨rfl, rfl, rfl⟩, fun _ => ?_,
    fun _ => ⟨rfl, rfl, ?_⟩, fun _ => ⟨rfl, rfl⟩, fun _ => ⟨rfl, rfl, rfl, rfl, ?_⟩,
    fun _ => ⟨?_, ?_⟩, fun _ => ⟨rfl, rfl⟩, fun _ => rfl⟩, rfl, ?_, _, rfl⟩
  · intro h; cases h <;> rfl
  · intro n; cases n <;> rfl
  · intro h; cases h <;> decide
  · intro h; cases h <;> rfl
  · intro n; cases n <;> exact ⟨.inl rfl, rfl, rfl, rfl, rfl, rfl⟩
  · intro c; cases c <;> exact ⟨rfl, rfl⟩
  · intro l h; cases h
  · intro p rest h; cases h

theorem witness_RelaysAndValvesObeyTheirLaws :
    (PowerInv watched ∧ (watched.heater .hz1).relay = true) ∧
      (BurnerInv busy ∧ valve busy .n3 = true ∧ sparkEnable busy = true ∧
        sparkSelect busy = burnerNumber .n3 - 1) :=
  ⟨⟨power_watched, by decide⟩, burners_busy, by decide, by decide, by decide⟩

/-- The longest duration, a ramp of 64 segments and the highest setpoint. -/
theorem witness_StageRecordsRoundTrip :
    stageFits (record (.level 12) 86399).spec .z1 ∧
      stageFits (record (.ramp 0 12 1350) 86399).spec .gr ∧
      stageFits { (record (.bake .defrost 275) 86399).spec with endOnTarget := true } .ov ∧
      stageFits (record .wait 0).spec .ov ∧ stageFits (record .flame 0).spec .b4 := by
  refine ⟨fits_level 12 (by decide), ⟨Nat.le_refl _, rfl, ?_⟩, ⟨Nat.le_refl _, rfl, ?_⟩,
    ⟨Nat.zero_le _, rfl, rfl, rfl⟩, ⟨Nat.zero_le _, rfl, rfl, rfl⟩⟩
  · decide
  · decide

end Sys2Proof.Tests
end

section
/-! SUPPORT. The end of an event (R49) in the terms of the channel it concerns: which handing each kind of
channel makes, and what it leaves in the channel records. -/

namespace Sys2Proof.Proofs

open Sys2Proof Sys2Proof.Machine Sys2Proof.Claims

/-- Z1, Z2 and GR hand their level. -/
theorem sync_of_hob {c : Channel} {h : Heater} (hc : hobHeater c = some h) (s : State) :
    sync c s = syncLevel c h s := by
  cases c <;> simp only [hobHeater, Option.some.injEq, reduceCtorEq] at hc <;> subst hc <;> rfl

/-- A B channel hands its permit. -/
theorem sync_of_burner {c : Channel} {n : Burner} (hc : channelBurner c = some n) (s : State) :
    sync c s = syncPermit c n s := by
  cases c <;> simp only [channelBurner, Option.some.injEq, reduceCtorEq] at hc <;> subst hc <;> rfl

/-- Each channel is a burner's, OV, or one that has a level. -/
theorem channel_kinds (c : Channel) :
    (∃ n, channelBurner c = some n ∧ hobHeater c = none) ∨ c = .ov ∨
      ∃ h, hobHeater c = some h ∧ channelBurner c = none ∧ isElectric c = true := by
  cases c <;> simp [channelBurner, hobHeater, isElectric]

theorem syncLevel_chan (c d : Channel) (h : Heater) (s : State) :
    (syncLevel c h s).chan d =
      if d = c then { s.chan c with level := channelLevel (s.chan c) } else s.chan d := by
  unfold syncLevel
  dsimp only
  split
  next hl =>
    split
    next hd => subst hd; rw [hl]
    next => rfl
  next => simp [State.setChan_chan]

/-- The handing writes the channel level of Z1, Z2 and GR, and no other field of any channel. -/
theorem sync_chan (c d : Channel) (s : State) :
    (sync c s).chan d =
      if d = c ∧ (hobHeater c).isSome = true then { s.chan c with level := channelLevel (s.chan c) }
      else s.chan d := by
  obtain ⟨n, hn, hh⟩ | rfl | ⟨h, hh, -, -⟩ := channel_kinds c
  · rw [sync_of_burner hn]; simp [hh]
  · simp [sync, hobHeater]
  · rw [sync_of_hob hh, syncLevel_chan]; simp [hh]

@[simp] theorem sync_plan (c d : Channel) (s : State) : ((sync c s).chan d).plan = (s.chan d).plan := by
  rw [sync_chan]; split
  next hd => rw [hd.1]
  next => rfl

@[simp] theorem sync_state (c d : Channel) (s : State) : ((sync c s).chan d).state = (s.chan d).state := by
  rw [sync_chan]; split
  next hd => rw [hd.1]
  next => rfl

@[simp] theorem sync_stageIndex (c d : Channel) (s : State) :
    ((sync c s).chan d).stageIndex = (s.chan d).stageIndex := by
  rw [sync_chan]; split
  next hd => rw [hd.1]
  next => rfl

end Sys2Proof.Proofs
end

section
/-! The stage pool (R6, R8). Most operations keep the free count and the length of every plan; PLAN BEGIN,
PLAN STAGE, PLAN COMMIT, QUICK LEVEL, the emptying of a channel and the resets are the ones that do not. -/

namespace Sys2Proof.Proofs

open Sys2Proof Sys2Proof.Machine Sys2Proof.Claims Sys2Proof.Safety

/-! ## What keeps the pool -/

/-- From s to t no record changes hands: the free count and the plans' lengths stay, no channel becomes
EMPTY, and an open load context is one that was open, with as many records staged. -/
structure KeepsPool (s t : State) : Prop where
  free : t.pst.free = s.pst.free
  length : ∀ c : Channel, (t.chan c).plan.length = (s.chan c).plan.length
  empty : ∀ c : Channel, (t.chan c).state = .empty → (s.chan c).state = .empty
  load : ∀ l ∈ t.pst.load, ∃ k ∈ s.pst.load,
    l.staged.length = k.staged.length ∧ l.expected = k.expected

namespace KeepsPool

/-- What keeps the pool keeps its invariant. -/
theorem inv {s t : State} (h : KeepsPool s t) (hs : PoolInv s) : PoolInv t where
  total := by
    have ho : ownedRecords t = ownedRecords s := by simp only [ownedRecords, h.length]
    rw [h.free, ho, hs.total]
  bound c := by rw [h.length]; exact hs.bound c
  empty c hc := by
    rw [← List.length_eq_zero_iff, h.length, hs.empty c (h.empty c hc), List.length_nil]
  staged l hl := by
    obtain ⟨k, hk, hn, he⟩ := h.load l hl
    rw [hn, he]; exact hs.staged k hk

/-- What leaves PST and the channel records alone keeps the pool. -/
theorem of_chans {s t : State} (hp : t.pst = s.pst) (hc : ∀ c, t.chan c = s.chan c) : KeepsPool s t where
  free := by rw [hp]
  length c := by rw [hc]
  empty c := by rw [hc]; exact id
  load l h := ⟨l, hp ▸ h, rfl, rfl⟩

theorem of_same {s t : State} (hp : t.pst = s.pst) (hl : t.plr = s.plr) : KeepsPool s t :=
  of_chans hp (chan_of_plr hl)

theorem refl (s : State) : KeepsPool s s := of_same rfl rfl

/-- The last operation first, then what came before it. -/
theorem after {s t u : State} (k : KeepsPool t u) (h : KeepsPool s t) : KeepsPool s u where
  free := k.free.trans h.free
  length c := (k.length c).trans (h.length c)
  empty c hc := h.empty c (k.empty c hc)
  load l hl := by
    obtain ⟨m, hm, hn, he⟩ := k.load l hl
    obtain ⟨n, hn', hm', he'⟩ := h.load m hm
    exact ⟨n, hn', hn.trans hm', he.trans he'⟩

/-- A channel record with as many stages, and in EMPTY only if it was. -/
theorem setChan (s : State) (c : Channel) (r : ChannelRec)
    (hlen : r.plan.length = (s.chan c).plan.length)
    (hempty : r.state = .empty → (s.chan c).state = .empty) : KeepsPool s (s.setChan c r) where
  free := rfl
  length d := by
    rw [State.setChan_chan]; split
    next hd => rw [hlen, hd]
    next => rfl
  empty d := by
    rw [State.setChan_chan]; split
    next hd => rw [hd]; exact hempty
    next => exact id
  load l h := ⟨l, h, rfl, rfl⟩

theorem foldl {α : Type} {f : State → α → State} (hf : ∀ s a, KeepsPool s (f s a)) (l : List α)
    (s : State) : KeepsPool s (l.foldl f s) := by
  induction l generalizing s with
  | nil => exact refl s
  | cons a l ih => exact (ih _).after (hf s a)

end KeepsPool

/-! ## The operations on channels -/

section Channels

variable (c : Channel) (s : State)

theorem sync_keepsPool : KeepsPool s (sync c s) where
  free := by simp
  length d := by simp
  empty d := by simp
  load l h := ⟨l, by simpa using h, rfl, rfl⟩

theorem raise_keepsPool (n : Notice) : KeepsPool s (raise n s) := .of_same (by simp) (by simp)

theorem withOvr_keepsPool (x : Ovr) : KeepsPool s (s.withOvr x) := .of_same rfl rfl
theorem withNtq_keepsPool (x : Ntq) : KeepsPool s (s.withNtq x) := .of_same rfl rfl
theorem withLnk_keepsPool (x : Lnk) : KeepsPool s (s.withLnk x) := .of_same rfl rfl

theorem modifyRecord_keepsPool (i : Nat) (f : PoolRecord → PoolRecord) :
    KeepsPool s (s.setChan c ((s.chan c).modifyRecord i f)) :=
  .setChan s c _ (by simp [ChannelRec.modifyRecord]) id

theorem setLastEnd_keepsPool (cause : EndCause) : KeepsPool s (setLastEnd c cause s) :=
  .setChan s c _ rfl id

theorem notifyStage_keepsPool (i : Nat) (cause : EndCause) : KeepsPool s (notifyStage c i cause s) :=
  .of_same (by simp) (by simp)

theorem endStage_keepsPool (i : Nat) (cause : EndCause) : KeepsPool s (endStage c i cause s) :=
  (setLastEnd_keepsPool c _ cause).after
    ((notifyStage_keepsPool c _ i cause).after (modifyRecord_keepsPool c s i _))

theorem flushStage_keepsPool (i : Nat) : KeepsPool s (flushStage c i s) :=
  (setLastEnd_keepsPool c _ .flushed).after
    ((notifyStage_keepsPool c _ i .flushed).after (modifyRecord_keepsPool c s i _))

theorem finishPlan_keepsPool (cause : PlanEnd) (detail : Nat) :
    KeepsPool s (finishPlan c cause detail s) :=
  (raise_keepsPool _ _).after (.setChan s c _ rfl (by simp))

theorem haltChannel_keepsPool (cause : HaltCause) : KeepsPool s (haltChannel c cause s) :=
  (raise_keepsPool _ _).after (.setChan s c _ rfl (by simp))

theorem enterRecord_keepsPool (i : Nat) (p : PoolRecord) : KeepsPool s (enterRecord c i p s) :=
  .setChan s c _ (by simp [ChannelRec.modifyRecord]) id

theorem findTarget_keepsPool : KeepsPool s (findTarget s) := by
  rw [findTarget_eq]
  exact (withOvr_keepsPool _ _).after ((raise_keepsPool _ _).after (modifyRecord_keepsPool .ov s _ _))

theorem takeBake_keepsPool (mode : Mode) (t : Nat) (preheat : Bool) :
    KeepsPool s (takeBake mode t preheat s) := .of_same (by simp) (by simp)

theorem clearContext_keepsPool (x : OvenContext) : KeepsPool s (clearContext x s) :=
  .of_same (by simp) (by simp)

/-- An entry passes over stages, enters one, or ends the plan. -/
theorem enterFrom_keepsPool (fuel i : Nat) : KeepsPool s (enterFrom c fuel i s) := by
  induction fuel generalizing i s with
  | zero => exact .refl s
  | succ fuel ih =>
    unfold enterFrom
    split
    next => exact finishPlan_keepsPool c s _ _
    next p _ =>
      split
      next => exact (ih _ _).after (flushStage_keepsPool c s i)
      next =>
        have hentered := enterRecord_keepsPool c s i p
        dsimp only
        split
        next =>
          split
          next mode setpoint _ =>
            have htaken := (takeBake_keepsPool _ mode setpoint p.spec.preheat).after hentered
            split_ifs
            · exact (haltChannel_keepsPool _ _ _).after htaken
            · exact (ih _ _).after
                ((endStage_keepsPool c _ i _).after ((findTarget_keepsPool _).after htaken))
            · exact (findTarget_keepsPool _).after htaken
            · exact htaken
          all_goals exact (clearContext_keepsPool _ _).after hentered
        next => exact hentered

theorem enterStage_keepsPool (i : Nat) : KeepsPool s (enterStage c i s) := enterFrom_keepsPool c s _ i

theorem endCurrent_keepsPool (cause : EndCause) : KeepsPool s (endCurrent c cause s) :=
  (enterStage_keepsPool c _ _).after (endStage_keepsPool c s _ _)

theorem targetCheck_keepsPool : KeepsPool s (targetCheck s) := by
  unfold targetCheck
  dsimp only
  split
  next =>
    split
    next => exact .refl s
    next =>
      split
      next =>
        exact (sync_keepsPool _ _).after
          ((endCurrent_keepsPool _ _ _).after (findTarget_keepsPool s))
      next => exact findTarget_keepsPool s
  next => exact .refl s

theorem pauseChannel_keepsPool : KeepsPool s (pauseChannel c s) :=
  (sync_keepsPool c _).after (.setChan s c _ rfl (by simp))

theorem resumeChannel_keepsPool : KeepsPool s (resumeChannel c s) := by
  unfold resumeChannel
  refine (sync_keepsPool c _).after ?_
  split
  next => exact (targetCheck_keepsPool _).after (.setChan s c _ rfl (by simp))
  next => exact .setChan s c _ rfl (by simp)

theorem runFromStart_keepsPool : KeepsPool s (runFromStart c s) :=
  (sync_keepsPool c _).after ((enterStage_keepsPool c _ 0).after (.setChan s c _ rfl (by simp)))

theorem reportFault_keepsPool (cause : HaltCause) : KeepsPool s (reportFault c cause s) := by
  unfold reportFault
  split
  next => exact (sync_keepsPool c _).after (haltChannel_keepsPool c s cause)
  next => exact .refl s

theorem expirePause_keepsPool : KeepsPool s (expirePause c s) :=
  (sync_keepsPool c _).after ((finishPlan_keepsPool c _ _ _).after (endStage_keepsPool c s _ _))

theorem advanceSegment_keepsPool (left : Nat) : KeepsPool s (advanceSegment c left s) := by
  unfold advanceSegment
  dsimp only
  split
  next =>
    split
    next =>
      split
      next => exact (sync_keepsPool c _).after (.setChan s c _ rfl id)
      next => exact .refl s
    all_goals exact .refl s
  next => exact .refl s

theorem channelTick_keepsPool : KeepsPool s (channelTick c s) := by
  unfold channelTick
  split
  next => exact .refl s
  next =>
    dsimp only
    split
    next =>
      exact (sync_keepsPool c _).after ((endCurrent_keepsPool c _ _).after (.setChan s c _ rfl id))
    next => exact (advanceSegment_keepsPool c _ _).after (.setChan s c _ rfl id)

theorem nextSecond_keepsPool : KeepsPool s (nextSecond c s) := .setChan s c _ rfl id

theorem changeCurrent_keepsPool (f : StageSpec → StageSpec) : KeepsPool s (changeCurrent c f s) :=
  modifyRecord_keepsPool c s _ _

theorem setLevel_keepsPool (n : Nat) : KeepsPool s (setLevel c n s) :=
  (sync_keepsPool c _).after (changeCurrent_keepsPool c s _)

theorem addTime_keepsPool (left : Nat) (e : Int) : KeepsPool s (addTime c left e s) :=
  (KeepsPool.setChan _ c _ (by rfl) (by exact id)).after (changeCurrent_keepsPool c s _)

theorem overshootCut_keepsPool : KeepsPool s (overshootCut s) := .of_same (by simp) (by simp)

theorem setSetpoint_keepsPool (mode : Mode) (t : Nat) : KeepsPool s (setSetpoint mode t s) := by
  unfold setSetpoint
  refine (targetCheck_keepsPool _).after ((overshootCut_keepsPool _).after ?_)
  dsimp only
  split
  · exact (withOvr_keepsPool _ _).after (changeCurrent_keepsPool .ov s _)
  · exact (modifyRecord_keepsPool .ov _ _ _).after
      ((withOvr_keepsPool _ _).after (changeCurrent_keepsPool .ov s _))

theorem linkPause_keepsPool : KeepsPool s (linkPause c s) := by
  unfold linkPause
  split
  next => exact pauseChannel_keepsPool c s
  next => exact .refl s

end Channels

/-! ## The events -/

section Events

variable (s : State)

theorem loseLink_keepsPool : KeepsPool s (loseLink s) := by
  unfold loseLink
  exact (withLnk_keepsPool _ _).after ((raise_keepsPool _ _).after
    ((KeepsPool.foldl (fun t c => linkPause_keepsPool c t) _ _).after (withLnk_keepsPool s _)))

theorem boostSwitch_keepsPool : KeepsPool s (boostSwitch s) := by
  unfold boostSwitch
  split
  next =>
    refine (withOvr_keepsPool _ _).after ?_
    have hformed (x : Ovr) : KeepsPool s (formSet (s.withOvr x)) := .of_same (by simp) (by simp)
    dsimp only
    split
    next => exact (reportFault_keepsPool _ _ _).after (hformed _)
    next => exact hformed _
  next => exact .refl s

theorem frameOven_keepsPool : KeepsPool s (frameOven s) :=
  (KeepsPool.foldl (fun _ _ => .of_same (by simp) (by simp)) _ _).after (boostSwitch_keepsPool s)

theorem frameEvent_keepsPool : KeepsPool s (frameEvent s) := by
  have hopened : KeepsPool s (openFrame s) := .of_same (by simp) (by simp)
  have hplaced : KeepsPool (frameOven (openFrame s)) (frameEvent s) :=
    .of_same (by simp [frameEvent]) (by simp [frameEvent])
  exact hplaced.after ((frameOven_keepsPool _).after hopened)

/-- What a FAILED finding does before it is reported. -/
theorem markFailed_keepsPool (h : Heater) (x : HeaterOut) (n : Notice) :
    KeepsPool s (raise n ((holdHeater h .failed s).setHeaterOut h x)) := .of_same (by simp) (by simp)

/-- The set check that follows the failure of an oven heater (R83, R84). -/
theorem checkSet_keepsPool : KeepsPool s (if s.ovr.context = .bake then
    (if emptyByFailure (formSet s) then reportFault .ov .element (formSet s) else formSet s)
    else s) := by
  have hformed : KeepsPool s (formSet s) := .of_same (by simp) (by simp)
  split
  · split
    · exact (reportFault_keepsPool _ _ _).after hformed
    · exact hformed
  · exact .refl s

theorem findFailed_keepsPool (h : Heater) : KeepsPool s (findFailed h s) := by
  unfold findFailed
  dsimp only
  cases h
  case hz1 | hz2 | hgrill => exact (reportFault_keepsPool _ _ _).after (markFailed_keepsPool s _ _ _)
  all_goals
    have hhanded (g : OvenHeater) (t : State) : KeepsPool t (handDemand g 0 t) :=
      .of_same (by simp) (by simp)
    exact (checkSet_keepsPool _).after ((hhanded _ _).after (markFailed_keepsPool s _ _ _))

theorem findWelded_keepsPool (h : Heater) (also : List Heater) : KeepsPool s (findWelded h also s) := by
  unfold findWelded
  have hsettled (x : OutStage) (t : State) : KeepsPool t (settleAll (t.withOut x)) :=
    .of_same (by simp) (by simp)
  refine (hsettled _ _).after ((KeepsPool.foldl (fun t c => reportFault_keepsPool c t .supply) _ _).after
    ((raise_keepsPool _ _).after ((hsettled _ _).after ?_)))
  exact .of_same (by simp [foldl_keeps (g := State.pst)]) (by simp [foldl_keeps (g := State.plr)])

/-- LOCKED stops the timers of PLR and PST (R139 step 6). -/
theorem lockPlans_keepsPool : KeepsPool s (lockPlans s) where
  free := rfl
  length c := by simp [lockPlans, State.chan]
  empty c := by simp [lockPlans, State.chan]
  load l h := by
    obtain ⟨k, hk, rfl⟩ := Option.map_eq_some_iff.1 h
    exact ⟨k, hk, rfl, rfl⟩

theorem enterLocked_keepsPool : KeepsPool s (enterLocked s) := by
  unfold enterLocked
  refine (withLnk_keepsPool _ _).after ((withNtq_keepsPool _ _).after ((lockPlans_keepsPool _).after ?_))
  exact .of_same (by simp) (by simp)

theorem runReached_keepsPool (h : Heater) (also : List Heater) : KeepsPool s (runReached h also s) := by
  unfold runReached
  split
  next =>
    split
    next => exact enterLocked_keepsPool s
    next =>
      split
      next => exact findFailed_keepsPool s h
      next => exact findWelded_keepsPool s h also
  next => exact .refl s

theorem validReading_keepsPool (t : Nat) : KeepsPool s (validReading t s) := by
  unfold validReading
  have hcooled (u : State) : KeepsPool u (evalCoolingFanAtReading (overshootCut u)) :=
    .of_same (by simp) (by simp)
  refine (hcooled _).after ((targetCheck_keepsPool _).after ?_)
  dsimp only
  split
  next => exact (raise_keepsPool _ _).after (withOvr_keepsPool _ _)
  next => exact withOvr_keepsPool _ _

theorem invalidReading_keepsPool : KeepsPool s (invalidReading s) := by
  unfold invalidReading
  dsimp only
  split
  next =>
    exact (reportFault_keepsPool _ _ _).after ((raise_keepsPool _ _).after (withOvr_keepsPool _ _))
  next => exact withOvr_keepsPool _ _

/-- A millisecond moves timers alone. -/
theorem advance_keepsPool : KeepsPool s (advance s) := by
  have hticked : KeepsPool s (tickChannels (tickLoad (tickLink s))) :=
    { free := rfl
      length := fun c => by simp [tickChannels, tickLoad, tickLink, State.chan, ChannelRec.tick]
      empty := fun c => by simp [tickChannels, tickLoad, tickLink, State.chan, ChannelRec.tick]
      load := fun l h => by
        obtain ⟨k, hk, rfl⟩ := Option.map_eq_some_iff.1 h
        exact ⟨k, hk, rfl, rfl⟩ }
  have hrest (t : State) :
      KeepsPool t (tickNotices (tickOutputs (tickBurners (tickOven (tickFrame t))))) :=
    .of_same rfl rfl
  exact (hrest _).after hticked

theorem idleStep_keepsPool : KeepsPool s (idleStep s) := by
  unfold idleStep
  split
  · exact advance_keepsPool s
  · exact .of_same rfl rfl
  · exact .of_same rfl rfl

end Events

/-! ## Records that change hands -/

theorem ownedRecords_setChan (s : State) (c : Channel) (r : ChannelRec) :
    ownedRecords (s.setChan c r) + (s.chan c).plan.length = ownedRecords s + r.plan.length := by
  cases c <;> simp [ownedRecords, allChannels, State.setChan_chan] <;> omega

/-- One channel's plan is replaced, and the free count makes up for it. -/
theorem replace_pool {s : State} (hs : PoolInv s) (c : Channel) (r : ChannelRec) (pst : Pst)
    (htotal : pst.free + r.plan.length = s.pst.free + (s.chan c).plan.length)
    (hbound : r.plan.length ≤ 12) (hempty : r.state = .empty → r.plan = [])
    (hload : ∀ l ∈ pst.load, l.staged.length ≤ l.expected ∧ l.expected ≤ 12) :
    PoolInv ((s.withPst pst).setChan c r) where
  total := by
    have howned := ownedRecords_setChan (s.withPst pst) c r
    have hbefore := hs.total
    have hsame : ownedRecords (s.withPst pst) = ownedRecords s := rfl
    simp only [State.withPst_chan, hsame] at howned
    simp only [State.setChan_pst, State.withPst_pst]
    omega
  bound d := by
    rw [State.setChan_chan]; split
    next => exact hbound
    next => exact hs.bound d
  empty d := by
    rw [State.setChan_chan]; split
    next => exact hempty
    next => exact hs.empty d
  staged := hload

theorem emptyRecord_pool {s : State} (hs : PoolInv s) (c : Channel) : PoolInv (emptyRecord c s) :=
  replace_pool hs c { ChannelRec.reset with level := (s.chan c).level }
    { s.pst with free := s.pst.free + (s.chan c).plan.length } rfl (by simp [ChannelRec.reset])
    (fun _ => rfl) hs.staged

theorem emptyChannel_pool {s : State} (hs : PoolInv s) (c : Channel) : PoolInv (emptyChannel c s) :=
  (sync_keepsPool c _).inv (emptyRecord_pool hs c)

theorem closeLoad_pool {s : State} (hs : PoolInv s) : PoolInv (closeLoad s) :=
  ⟨hs.total, hs.bound, hs.empty, by simp [closeLoad]⟩

theorem emptyRecords_pool (cs : List Channel) {s : State} (hs : PoolInv s) :
    PoolInv (cs.foldl (fun t c => emptyRecord c t) s) := by
  induction cs generalizing s with
  | nil => exact hs
  | cons c cs ih => exact ih (emptyRecord_pool hs c)

theorem stopEverything_pool {s : State} (hs : PoolInv s) : PoolInv (stopEverything s) := by
  have hburners (t : State) : KeepsPool t (stopBurners t) := .of_same (by simp) (by simp)
  exact ((hburners _).after (KeepsPool.foldl (fun t c => sync_keepsPool c t) _ _)).inv
    (closeLoad_pool (emptyRecords_pool allChannels hs))

/-- The checks that a PLAN COMMIT has passed when none refuses it (R13). -/
theorem commit_checked {load : LoadContext} {s : State} (h : commitProblem load s = none) :
    load.expected ≤ load.staged.length ∧
      load.expected ≤ s.pst.free + (s.chan load.target).plan.length := by
  unfold commitProblem at h
  dsimp only at h
  split_ifs at h
  simp only [ChannelRec.stageCount] at *
  omega

theorem planCommit_pool {s : State} (hs : PoolInv s) : PoolInv (ownPlanCommit s).state := by
  unfold ownPlanCommit
  split
  next => exact hs
  next load hload =>
    split
    next => exact closeLoad_pool hs
    next hchecked =>
      obtain ⟨hall, hroom⟩ := commit_checked hchecked
      obtain ⟨hstaged, hcount⟩ := hs.staged load hload
      refine (sync_keepsPool load.target _).inv (replace_pool hs _ _ _ ?_ ?_ ?_ ?_)
      · simp only [readyRecord, List.length_map, ChannelRec.stageCount]; omega
      · simp only [readyRecord, List.length_map]; omega
      · simp [readyRecord]
      · simp

theorem quickPlan_pool {s : State} (hs : PoolInv s) (c : Channel) (n : Nat)
    (hroom : s.pst.free + (s.chan c).stageCount ≠ 0) : PoolInv (quickPlan c n s) := by
  refine (runFromStart_keepsPool c _).inv (replace_pool hs c _ _ ?_ ?_ ?_ hs.staged)
  · simp only [readyRecord, List.length_singleton, ChannelRec.stageCount] at *; omega
  · simp [readyRecord]
  · simp [readyRecord]

/-- A request on one channel keeps the pool when it does so on each channel it can name. -/
theorem onChannel_pool {f : Channel → State → Answered} {s : State} (hs : PoolInv s)
    (hf : ∀ c, PoolInv (f c s).state) (code detail : Nat) :
    PoolInv (onChannel code detail f s).state := by
  unfold onChannel
  split
  · exact hs
  · exact hf _

theorem planBegin_pool {s : State} (hs : PoolInv s) (code count : Nat) :
    PoolInv (ownPlanBegin code count s).state := by
  refine onChannel_pool hs (fun c => ?_) _ _
  split
  next => exact hs
  next hcount =>
    refine ⟨hs.total, hs.bound, hs.empty, fun l hl => ?_⟩
    cases hl
    simp only [List.length_nil]
    omega

theorem planStage_pool {s : State} (hs : PoolInv s) (index : Nat) (record : List Byte) :
    PoolInv (ownPlanStage index record s).state := by
  unfold ownPlanStage
  split
  next => exact hs
  next load hload =>
    dsimp only
    split_ifs with hseq
    · exact hs
    · exact hs
    · split
      next => exact hs
      next =>
        refine ⟨hs.total, hs.bound, hs.empty, fun l hl => ?_⟩
        cases hl
        have hcount := hs.staged load hload
        simp only [List.length_append, List.length_singleton]
        omega

theorem quickStop_pool {s : State} (hs : PoolInv s) (c : Channel) :
    PoolInv (quickStop c s).state := by
  unfold quickStop
  dsimp only
  split
  case h_1 | h_5 | h_6 => exact hs
  all_goals exact emptyChannel_pool hs c

theorem quickSet_pool {s : State} (hs : PoolInv s) (c : Channel) (n : Nat) :
    PoolInv (quickSet c n s).state := by
  have hset : PoolInv (setLevel c n s) := (setLevel_keepsPool c s n).inv hs
  unfold quickSet
  dsimp only
  split
  case h_4 => split <;> assumption
  case h_5 | h_6 => exact hs
  all_goals
    split
    next => exact hs
    next =>
      split
      next => exact hs
      next hroom => exact quickPlan_pool hs c n hroom

theorem quickLevel_pool {s : State} (hs : PoolInv s) (code level : Nat) :
    PoolInv (ownQuickLevel code level s).state := by
  refine onChannel_pool hs (fun c => ?_) _ _
  split_ifs
  · exact hs
  · exact hs
  · exact quickStop_pool hs c
  · exact quickSet_pool hs c level

/-! ## The requests -/

section Requests

variable {s : State} (hs : PoolInv s)
include hs

theorem adjustCurrent_pool (code u : Nat) (v : Int) (c : Channel) :
    PoolInv (adjustCurrent code u v c s).state := by
  have htime (left : Nat) (e : Int) := (addTime_keepsPool c s left e).inv hs
  have hlevel (n : Nat) := (setLevel_keepsPool c s n).inv hs
  have hsetpoint (m : Mode) (t : Nat) := (setSetpoint_keepsPool s m t).inv hs
  unfold adjustCurrent adjustTime adjustLevel adjustSetpoint
  repeat' split
  all_goals first
    | exact hs
    | exact htime _ _
    | exact hlevel _
    | exact hsetpoint _ _

/-- What moves a channel keeps the pool (Table 1-3). -/
theorem mover_pool (c : Channel) :
    PoolInv (actStart c s).state ∧ PoolInv (actPause c s).state ∧ PoolInv (actResume c s).state ∧
      PoolInv (actSkip c s).state ∧ PoolInv (actStop c s).state ∧ PoolInv (actClear c s).state := by
  have hstarted := (runFromStart_keepsPool c s).inv hs
  have hpaused := (pauseChannel_keepsPool c s).inv hs
  have hresumed := (resumeChannel_keepsPool c s).inv hs
  have hskipped := ((sync_keepsPool c _).after (endCurrent_keepsPool c s .cut)).inv hs
  have hemptied := emptyChannel_pool hs c
  refine ⟨?_, ?_, ?_, ?_, ?_, ?_⟩
  · unfold actStart; split_ifs
    · exact hs
    · split
      · exact hs
      · exact hstarted
  · unfold actPause; split_ifs <;> assumption
  · unfold actResume; split_ifs <;> assumption
  · unfold actSkip; split_ifs <;> assumption
  · unfold actStop; split <;> assumption
  · unfold actClear; split <;> assumption

theorem adjust_pool (channel code u : Nat) (v : Int) : PoolInv (ownAdjust channel code u v s).state := by
  unfold ownAdjust
  refine onChannel_pool hs (fun c => ?_) _ _
  split
  · exact hs
  · exact adjustCurrent_pool hs _ _ _ c

theorem closeConfig_pool : PoolInv (ownCloseConfig s).state := by
  unfold ownCloseConfig
  split
  · exact hs
  · exact (KeepsPool.of_same (by simp [accepted]) (by simp [accepted])).inv hs

theorem readStage_pool (code index : Nat) :
    PoolInv (ownReadStage code index s).state ∧ PoolInv (ownReadStageNext s).state := by
  have hread (c : Channel) (i : Nat) (p : PoolRecord) : PoolInv (readRecord c i p s).state := by
    have hcursor : KeepsPool s (s.withPlr { s.plr with cursor := some (c, i) }) :=
      .of_chans rfl fun _ => rfl
    exact hcursor.inv hs
  constructor
  · unfold ownReadStage
    refine onChannel_pool hs (fun c => ?_) _ _
    split
    · exact hs
    · exact hread _ _ _
  · unfold ownReadStageNext
    split
    · exact hs
    · split
      · exact hs
      · exact hread _ _ _

/-- Every request keeps the pool; those of the kinds not named here leave PST and PLR as they were. -/
theorem ownerActs_pool (k : ReqKind) (body : List Byte) : PoolInv (ownerActs k body s).state := by
  have hsame {t : State} (hp : t.pst = s.pst) (hl : t.plr = s.plr) : PoolInv t :=
    (KeepsPool.of_same hp hl).inv hs
  cases k <;>
    dsimp only [ownerActs, ownStart, ownPause, ownResume, ownSkip, ownStop, ownClear, ownReadChannel]
  case planBegin => exact planBegin_pool hs _ _
  case planStage => exact planStage_pool hs _ _
  case planCommit => exact planCommit_pool hs
  case quickLevel => exact quickLevel_pool hs _ _
  case stopAll => simpa only [ownStopAll, accepted] using stopEverything_pool hs
  case start => exact onChannel_pool hs (fun c => (mover_pool hs c).1) _ _
  case pause => exact onChannel_pool hs (fun c => (mover_pool hs c).2.1) _ _
  case resume => exact onChannel_pool hs (fun c => (mover_pool hs c).2.2.1) _ _
  case skip => exact onChannel_pool hs (fun c => (mover_pool hs c).2.2.2.1) _ _
  case stop => exact onChannel_pool hs (fun c => (mover_pool hs c).2.2.2.2.1) _ _
  case clear => exact onChannel_pool hs (fun c => (mover_pool hs c).2.2.2.2.2) _ _
  case adjust => exact adjust_pool hs _ _ _ _
  case closeConfig => exact closeConfig_pool hs
  case readStage =>
    split
    · exact (readStage_pool hs 0 0).2
    · exact (readStage_pool hs _ _).1
  case readChannel => exact onChannel_pool hs (fun _ => hs) _ _
  case status | readConfig => exact hs
  case fetchNotices =>
    unfold ownFetchNotices
    dsimp only
    split_ifs
    · exact hs
    · exact hs
    · exact hsame (by simp [accepted]) (by simp [accepted])
    · exact hsame (by simp [accepted]) (by simp [accepted])
  case armAttention =>
    exact hsame (by simp [ownArmAttention, accepted]) (by simp [ownArmAttention, accepted])
  all_goals
    simp only [ownSetBudget, ownSetHeater, ownSetOvenTuning, ownSetLink, ownRestart, ownReadFrame]
    repeat' split
    all_goals exact hsame rfl rfl

end Requests

/-! ## The link -/

theorem takeRequest_pool {s : State} (hs : PoolInv s) (r : Request) : PoolInv (takeRequest r s) := by
  have hdecided : PoolInv (decideRequest r s).state := by
    unfold decideRequest
    split
    · exact hs
    · exact ownerActs_pool hs _ _
  have hanswered (a : Answered) : KeepsPool a.state (answerRequest r a) := by
    unfold answerRequest clearReported
    split <;> exact .of_same rfl rfl
  unfold takeRequest
  split
  · exact (hanswered _).inv hdecided
  · exact hdecided

theorem placeRequest_pool {s : State} (hs : PoolInv s) (r : Request) : PoolInv (placeRequest r s) := by
  unfold placeRequest
  split
  · exact takeRequest_pool hs r
  · exact (withLnk_keepsPool s _).inv hs
  · exact (withLnk_keepsPool s _).inv hs

theorem acceptFrame_pool {s : State} (hs : PoolInv s) (r : Request) : PoolInv (acceptFrame r s) := by
  have hheard : PoolInv (restartSupervision s) := by
    unfold restartSupervision
    split
    · exact (withLnk_keepsPool s _).inv hs
    · exact hs
  unfold acceptFrame
  dsimp only
  split
  · exact placeRequest_pool hheard r
  · split
    · exact placeRequest_pool hheard r
    · exact hheard

theorem abandonFrame_keepsPool (s : State) : KeepsPool s (abandonFrame s) := by
  unfold abandonFrame
  split
  · exact withLnk_keepsPool s _
  all_goals exact .refl s

theorem arriveRequest_pool {s : State} (hs : PoolInv s) (a : FrameAddr) (kind tag : Byte)
    (body : List Byte) : PoolInv (arriveRequest a kind tag body s) := by
  have habandoned := (abandonFrame_keepsPool s).inv hs
  unfold arriveRequest
  dsimp only
  split
  · exact (withLnk_keepsPool _ _).inv habandoned
  · exact acceptFrame_pool ((withLnk_keepsPool _ _).inv habandoned) _

theorem addressChar_keepsPool (a : Byte) (s : State) : KeepsPool s (addressChar a s) := by
  unfold addressChar
  dsimp only
  split_ifs
  all_goals exact (withLnk_keepsPool _ _).after (abandonFrame_keepsPool s)

theorem dataChar_pool {s : State} (hs : PoolInv s) (d : Byte) : PoolInv (dataChar d s) := by
  unfold dataChar completeFrame
  dsimp only
  split
  · exact hs
  · exact hs
  · split_ifs
    · exact (withLnk_keepsPool s _).inv hs
    · exact acceptFrame_pool ((withLnk_keepsPool s _).inv hs) _
    · exact (withLnk_keepsPool _ _).inv ((withLnk_keepsPool s _).inv hs)
    · exact (withLnk_keepsPool s _).inv hs

/-- After a reset the 40 records are free (R6, R175). -/
theorem resetBlocks_pool (cause : ResetCause) (s : State) : PoolInv (resetBlocks cause s) where
  total := rfl
  bound c := by cases c <;> exact Nat.zero_le _
  empty c _ := by cases c <;> rfl
  staged l hl := by cases hl

theorem endReply_pool {s : State} (hs : PoolInv s) : PoolInv (endReply s) := by
  unfold endReply
  split
  · split
    · exact resetBlocks_pool .requested s
    · unfold takeWaiting
      split
      · exact (withLnk_keepsPool s _).inv hs
      · exact takeRequest_pool ((withLnk_keepsPool _ _).inv ((withLnk_keepsPool s _).inv hs)) _
  all_goals exact hs

/-! ## The commands -/

theorem reportClosing_pool {s : State} (hs : PoolInv s) (c : Channel) : PoolInv (reportClosing c s) := by
  unfold reportClosing
  split
  · exact emptyChannel_pool hs c
  · exact hs

/-- A completion of a channel's timer keeps the pool (R30, R36). -/
theorem channelTimer_pool {s t : State} (hs : PoolInv s) (c : Channel)
    (h : exec (.channelSecond c) s = .next t ∨ exec (.stageElapsed c) s = .next t ∨
      exec (.pauseTimerSecond c) s = .next t ∨ exec (.pauseExpiry c) s = .next t) : PoolInv t := by
  obtain h | h | h | h := h <;> cases h
  · split
    · exact ((channelTick_keepsPool c _).after (nextSecond_keepsPool c s)).inv hs
    · exact hs
  · split
    · exact ((sync_keepsPool c _).after ((endCurrent_keepsPool c _ _).after
        ((KeepsPool.setChan _ c _ (by rfl) (by exact id)).after (nextSecond_keepsPool c s)))).inv hs
    · exact hs
  · split
    · exact hs
    · split
      · exact (expirePause_keepsPool c s).inv hs
      · exact (KeepsPool.setChan s c _ (by rfl) (by exact id)).inv hs
  · split
    · exact (expirePause_keepsPool c s).inv hs
    · exact hs

/-- Every command keeps the pool. -/
theorem exec_pool {s t : State} (hs : PoolInv s) (i : Instr) (h : exec i s = .next t) : PoolInv t := by
  have hrequest {r : Request} (hr : requestFrame i = some r) : PoolInv t := by
    rw [exec_eq_arrive s hr] at h
    cases h
    exact arriveRequest_pool hs _ _ _ _
  have hsame {u : State} (hp : u.pst = s.pst) (hl : u.plr = s.plr) : PoolInv u :=
    (KeepsPool.of_same hp hl).inv hs
  cases i
  case powerOnReset => cases h; exact resetBlocks_pool .powerOn _
  case addressCharacter a => cases h; exact (addressChar_keepsPool a s).inv hs
  case dataCharacter d => cases h; exact dataChar_pool hs d
  case framingError => cases h; exact (abandonFrame_keepsPool s).inv hs
  case gapTimeout =>
    cases h; split
    · exact (abandonFrame_keepsPool s).inv hs
    · exact hs
  case replySent => cases h; exact endReply_pool hs
  case linkSupervisionExpiry =>
    cases h; split
    · exact (loseLink_keepsPool s).inv hs
    · exact hs
  case loadIdleTimeout =>
    cases h; split
    · exact closeLoad_pool hs
    · exact hs
  case channelSecond c => exact channelTimer_pool hs c (.inl h)
  case stageElapsed c => exact channelTimer_pool hs c (.inr (.inl h))
  case pauseTimerSecond c => exact channelTimer_pool hs c (.inr (.inr (.inl h)))
  case pauseExpiry c => exact channelTimer_pool hs c (.inr (.inr (.inr h)))
  case frameBoundary =>
    cases h; split
    · exact hs
    · exact (frameEvent_keepsPool s).inv hs
  case probeReading reading =>
    cases h
    dsimp only
    split
    · split
      · exact (validReading_keepsPool _ _).inv (hsame rfl rfl)
      · exact (invalidReading_keepsPool _).inv (hsame rfl rfl)
    · exact hsame rfl rfl
  case knobClosed n =>
    cases h; split
    · exact hs
    · exact reportClosing_pool (hsame (by simp) (by simp)) _
  case persistenceRunExpiry g also => cases h; exact (runReached_keepsPool s g also).inv hs
  case replyStart =>
    cases h; unfold startReply; split
    · exact hsame rfl rfl
    · exact hs
  case doorInputChange | knobInputChange | doorOpened | flameSenseChange | loadSenseChange =>
    cases h
    dsimp only
    repeat' split
    all_goals exact hsame (by simp) (by simp)
  case slotBoundary | doorClosed | knobOpened | restTimerExpiry | flameProven | attemptFailed
    | retryGapExpiry | flameLost | settlingEnd | contactorProvingExpiry | spacingTimerExpiry =>
    cases h
    repeat' split
    all_goals exact hsame (by simp) (by simp)
  case holdTailEnd =>
    cases h; split
    · exact hsame (by simp [foldl_keeps (g := State.pst)]) (by simp [foldl_keeps (g := State.plr)])
    · exact hs
    · exact hs
  all_goals exact hrequest rfl

/-- Settles O52: a command keeps the pool, and so does the part's own clock. -/
theorem poolIsConserved : Obligations.PoolIsConserved := by
  intro s t hs hstep
  unfold step at hstep
  split at hstep
  next c rest _ =>
    have hwaiting : KeepsPool s (s.withPending rest) := .of_same rfl rfl
    exact exec_pool (hwaiting.inv hs) c hstep
  next =>
    cases hstep
    exact (idleStep_keepsPool s).inv hs

end Sys2Proof.Proofs
end

section
/-! SUPPORT. Requests that name a channel (R2, R15): the checks of the channel code come first, then the
owner acts on the channel. -/

namespace Sys2Proof.Proofs

open Sys2Proof Sys2Proof.Machine Sys2Proof.Claims

theorem answer_accepted (r : Request) (body : List Byte) (u : State) :
    answerRequest r (accepted body u) = accepts r body u := answer_accept r body u

theorem answer_refused (r : Request) (cause : Cause) (detail : Nat) (u : State) :
    answerRequest r (refused cause detail u) = refuses r cause detail u := answer_refuse r cause detail u

theorem answer_wrongState (r : Request) (c : Channel) (s : State) :
    answerRequest r (wrongState c (heard s)) =
      refuses r .wrongState (stateCode (s.chan c).state) (heard s) := answer_refuse _ _ _ _

theorem answer_channelDone (r : Request) (c : Channel) (u : State) :
    answerRequest r (channelDone c u) = accepts r (standing c u) u := answer_accept _ _ _

/-- The command i is a request r of kind k that names a channel by a code; past the checks of the code,
f answers it. -/
structure NamesChannel (i : Instr) (r : Request) (k : ReqKind) (code : Byte) (detail : Nat)
    (f : Channel → State → Answered) : Prop where
  frame : requestFrame i = some r
  addr : r.addr = .unit
  kind : reqKindOf r.kind.toNat = some k
  fits : lengthFits k r.body.length = true
  short : r.body.length ≤ 24
  first : num8 r.body 0 = code.toNat
  plain : isConfigKind k = false
  owner : ∀ u, ownerActs k r.body u = onChannel code.toNat detail f u

/-- The kinds that an electric channel takes only while the part is OPERATING (R2). -/
def runs (k : ReqKind) : Prop := k = .planBegin ∨ k = .start ∨ k = .quickLevel

theorem operatingOnly_eq_false {k : ReqKind} {body : List Byte}
    (h : runs k → num8 body 0 < 4 ∨ 7 < num8 body 0) : isOperatingOnly k body = false := by
  cases k <;> simp_all [isOperatingOnly, runs] <;> omega

theorem onChannel_out_of_range {code : Nat} (hc : 8 ≤ code) (detail : Nat)
    (f : Channel → State → Answered) (u : State) :
    onChannel code detail f u = refused .outOfRange detail u := by
  simp [onChannel, namedChannel, channelOf_eq_none hc]

theorem onChannel_absent {u : State} {code : Nat} {c : Channel} (hc : code = channelCode c)
    (hop : u.cfg.part = .operating) (ha : u.cfg.absent.get c = true) (detail : Nat)
    (f : Channel → State → Answered) : onChannel code detail f u = refused .absent 0 u := by
  simp [onChannel, namedChannel, hc, hop, ha]

section

variable {i : Instr} {r : Request} {k : ReqKind} {code : Byte} {detail : Nat}
  {f : Channel → State → Answered} {s : State} {c : Channel}

/-- Past the generic checks the request is answered as on its channel. -/
theorem NamesChannel.passes (h : NamesChannel i r k code detail f) (hs : free s)
    (hp : s.cfg.part ≠ .locked)
    (hrun : s.cfg.part = .configuring → runs k → code.toNat < 4 ∨ 7 < code.toNat) :
    exec i s = .next (answerRequest r (onChannel code.toNat detail f (heard s))) := by
  obtain ⟨addr, kind, tag, body⟩ := r
  obtain rfl : addr = .unit := h.addr
  rw [exec_passed h.frame h.short hs h.kind h.fits (.inl hp) (fun _ => h.plain)
    (fun hc => operatingOnly_eq_false (h.first ▸ hrun hc)), h.owner]

theorem NamesChannel.out_of_range (h : NamesChannel i r k code detail f) (hs : free s)
    (hp : s.cfg.part ≠ .locked) (hc : 8 ≤ code.toNat) :
    exec i s = .next (refuses r .outOfRange detail (heard s)) := by
  rw [h.passes hs hp (fun _ _ => .inr (by omega)), onChannel_out_of_range hc, answer_refused]

theorem NamesChannel.absent (h : NamesChannel i r k code detail f) (hs : free s)
    (hc : code.toNat = channelCode c) (hop : s.cfg.part = .operating)
    (ha : s.cfg.absent.get c = true) : exec i s = .next (refuses r .absent 0 (heard s)) := by
  rw [h.passes hs (by simp [hop]) (by simp [hop]),
    onChannel_absent (u := heard s) hc hop ha, answer_refused]

/-- A channel that the request can name is acted on. -/
theorem NamesChannel.acts (h : NamesChannel i r k code detail f) (hs : free s) (hn : Named s code c)
    (hrun : runs k → isElectric c = true → s.cfg.part = .operating) :
    exec i s = .next (answerRequest r (f c (heard s))) := by
  rw [h.passes hs hn.part ?_, onChannel_named hn]
  intro hconf hk
  have hgas : ¬ isElectric c = true := fun he => by simp [hrun hk he] at hconf
  rw [isElectric_iff_code, ← hn.code] at hgas
  omega

/-- A kind that any part but a LOCKED one takes. -/
theorem NamesChannel.acts_always (h : NamesChannel i r k code detail f) (hk : ¬ runs k) (hs : free s)
    (hn : Named s code c) : exec i s = .next (answerRequest r (f c (heard s))) :=
  h.acts hs hn fun hr => absurd hr hk

theorem NamesChannel.acts_run (h : NamesChannel i r k code detail f) (hs : free s)
    (hn : NamedToRun s code c) : exec i s = .next (answerRequest r (f c (heard s))) :=
  h.acts hs hn.toNamed fun _ => hn.electric

end

/-! ## The requests that move a channel (Table 1-3) -/

section

variable (tag code : Byte)

theorem start_names : NamesChannel (.start tag code) ⟨.unit, 0x18, tag, [code]⟩ .start code 0 actStart :=
  ⟨rfl, rfl, rfl, rfl, by simp, rfl, rfl, fun _ => rfl⟩

theorem pause_names : NamesChannel (.pause tag code) ⟨.unit, 0x19, tag, [code]⟩ .pause code 0 actPause :=
  ⟨rfl, rfl, rfl, rfl, by simp, rfl, rfl, fun _ => rfl⟩

theorem resume_names :
    NamesChannel (.resume tag code) ⟨.unit, 0x1A, tag, [code]⟩ .resume code 0 actResume :=
  ⟨rfl, rfl, rfl, rfl, by simp, rfl, rfl, fun _ => rfl⟩

theorem skip_names : NamesChannel (.skip tag code) ⟨.unit, 0x1B, tag, [code]⟩ .skip code 0 actSkip :=
  ⟨rfl, rfl, rfl, rfl, by simp, rfl, rfl, fun _ => rfl⟩

theorem stop_names : NamesChannel (.stop tag code) ⟨.unit, 0x1C, tag, [code]⟩ .stop code 0 actStop :=
  ⟨rfl, rfl, rfl, rfl, by simp, rfl, rfl, fun _ => rfl⟩

theorem clear_names : NamesChannel (.clear tag code) ⟨.unit, 0x1D, tag, [code]⟩ .clear code 0 actClear :=
  ⟨rfl, rfl, rfl, rfl, by simp, rfl, rfl, fun _ => rfl⟩

end

/-- The refusals of a request that moves a channel: the code, ABSENT, then the channel state. -/
theorem mover_refusals {i : Instr} {r : Request} {k : ReqKind} {code : Byte}
    {f : Channel → State → Answered} {states : List ChannelState} {s : State}
    (h : NamesChannel i r k code 0 f) (hk : runs k → r.kind = 0x18)
    (hf : ∀ c u, (u.chan c).state ∉ states → f c u = wrongState c u) (hs : free s)
    (hp : s.cfg.part ≠ .locked) :
    (8 ≤ code.toNat → exec i s = .next (refuses r .outOfRange 0 (heard s))) ∧
    ∀ c : Channel, code.toNat = channelCode c →
      (s.cfg.part = .operating → s.cfg.absent.get c = true →
        exec i s = .next (refuses r .absent 0 (heard s))) ∧
      (Named s code c → (r.kind = 0x18 → isElectric c = true → s.cfg.part = .operating) →
        (s.chan c).state ∉ states →
          exec i s = .next (refuses r .wrongState (stateCode (s.chan c).state) (heard s))) := by
  refine ⟨h.out_of_range hs hp, fun c hc => ⟨h.absent hs hc, fun hn hrun hst => ?_⟩⟩
  rw [h.acts hs hn fun hr => hrun (hk hr), hf c (heard s) hst, answer_wrongState]

/-- What QUICK LEVEL does on a channel. -/
def quickAct (level : Nat) (c : Channel) (s : State) : Answered :=
  if hobHeater c = none then refused .outOfRange 2 s
  else if 13 ≤ level then refused .outOfRange 5 s
  else if level = 0 then quickStop c s
  else quickSet c level s

theorem quickLevel_names (tag code level : Byte) :
    NamesChannel (.quickLevel tag code level) ⟨.unit, 0x1F, tag, [code, level]⟩ .quickLevel code 0
      (quickAct level.toNat) :=
  ⟨rfl, rfl, rfl, rfl, by simp, rfl, rfl, fun _ => rfl⟩

/-- Settles O20: each of the six requests refuses through the same checks, and its own states follow from
its definition. -/
theorem channelRequestsNeedTheirState : Obligations.ChannelRequestsNeedTheirState := by
  intro tag code s hs hp
  refine ⟨fun level => ⟨(quickLevel_names tag code level).out_of_range hs hp,
    fun c hc => (quickLevel_names tag code level).absent hs hc⟩, fun i kind states hi => ?_⟩
  simp only [movers, List.mem_cons, Prod.mk.injEq, List.not_mem_nil, or_false] at hi
  obtain ⟨rfl, rfl, rfl⟩ | ⟨rfl, rfl, rfl⟩ | ⟨rfl, rfl, rfl⟩ | ⟨rfl, rfl, rfl⟩ | ⟨rfl, rfl, rfl⟩ |
    ⟨rfl, rfl, rfl⟩ := hi
  · exact mover_refusals (start_names tag code) (fun _ => rfl)
      (fun c u hst => by simp_all [actStart]) hs hp
  · exact mover_refusals (pause_names tag code) (by simp [runs])
      (fun c u hst => by simp_all [actPause]) hs hp
  · exact mover_refusals (resume_names tag code) (by simp [runs])
      (fun c u hst => by simp_all [actResume]) hs hp
  · exact mover_refusals (skip_names tag code) (by simp [runs])
      (fun c u hst => by simp_all [actSkip]) hs hp
  · refine mover_refusals (stop_names tag code) (by simp [runs]) (fun c u hst => ?_) hs hp
    unfold actStop
    split <;> simp_all
  · refine mover_refusals (clear_names tag code) (by simp [runs]) (fun c u hst => ?_) hs hp
    unfold actClear
    split <;> simp_all

end Sys2Proof.Proofs
end

section
/-! The requests that move a channel (R15 to R20): what each does when it is accepted. -/

namespace Sys2Proof.Proofs

open Sys2Proof Sys2Proof.Machine Sys2Proof.Claims

/-! ## The plant checks (R15, R22) -/

/-- Every installed oven heater is FAILED, and there is one. -/
theorem allOvenFailed_iff (s : State) :
    allOvenFailed s = true ↔
      (∃ h, (s.install (ovenHeaterAsHeater h)).installed = true) ∧ ∀ h, works s h = false := by
  have hovens (P : OvenHeater → Prop) : (∀ h, P h) ↔ P .top ∧ P .base ∧ P .ring :=
    ⟨fun h => ⟨h _, h _, h _⟩, fun h g => by obtain ⟨ht, hb, hr⟩ := h; cases g <;> assumption⟩
  have hsome (P : OvenHeater → Prop) : (∃ h, P h) ↔ P .top ∨ P .base ∨ P .ring := by
    rw [← not_iff_not, not_exists, not_or, not_or]; exact hovens fun h => ¬ P h
  rw [hsome, hovens]
  cases ht : (s.install .htop).installed <;> cases hb : (s.install .hbase).installed <;>
    cases hr : (s.install .hring).installed <;>
    simp [allOvenFailed, works, ovenHeaterAsHeater, ht, hb, hr]

/-- The element check of the plant: the channel's heater FAILED, or on OV every installed one (R15). -/
def elementDown (c : Channel) (s : State) : Prop :=
  (∃ h, hobHeater c = some h ∧ (s.heaterOut h).failed = true) ∨
    c = .ov ∧ (∃ h, (s.install (ovenHeaterAsHeater h)).installed = true) ∧ ∀ h, works s h = false

theorem elementDown_iff (c : Channel) (s : State) :
    elementDown c s ↔ (hobHeater c).any (fun h => (s.heaterOut h).failed) = true ∨
      c = .ov ∧ allOvenFailed s = true := by
  rw [elementDown, allOvenFailed_iff, Option.any_eq_true]

/-- The plant checks in their order: supply-off, the element, the probe. -/
theorem plantProblem_cases (c : Channel) (s : State) :
    (isElectric c = true ∧ s.out.supplyOff = true → plantProblem c s = some 2) ∧
    (¬ (isElectric c = true ∧ s.out.supplyOff = true) →
      (elementDown c s → plantProblem c s = some 1) ∧
      (¬ elementDown c s →
        (c = .ov ∧ s.ovr.fault = true → plantProblem c s = some 3) ∧
        (¬ (c = .ov ∧ s.ovr.fault = true) → plantProblem c s = none))) := by
  rw [elementDown_iff]
  unfold plantProblem
  cases he : isElectric c
  · cases c <;> simp_all [isElectric, hobHeater]
  · cases hs : s.out.supplyOff
    · cases hh : (hobHeater c).any (fun h => (s.heaterOut h).failed)
      · by_cases ho : c = .ov ∧ allOvenFailed s = true <;> simp [ho]
      · simp
    · simp

/-- START of a READY channel is refused on the plant check that fails. -/
theorem actStart_blocked {c : Channel} {s : State} {d : Nat} (hready : (s.chan c).state = .ready)
    (h : plantProblem c s = some d) : actStart c s = refused .blocked d s := by
  unfold actStart; rw [if_neg (by simp [hready]), h]

theorem actStart_runs {c : Channel} {s : State} (hready : (s.chan c).state = .ready)
    (h : plantProblem c s = none) : actStart c s = channelDone c (runFromStart c s) := by
  unfold actStart; rw [if_neg (by simp [hready]), h]

/-- Settles O21: START through its plant checks, SKIP through the end of the current stage. -/
theorem startAndSkipEnterAStage : Obligations.StartAndSkipEnterAStage := by
  intro tag code c s hs
  constructor
  · intro hn hready r supply element probe
    have hact : exec (.start tag code) s = .next (answerRequest r (actStart c (heard s))) :=
      (start_names tag code).acts_run hs hn
    have hblocked (d : Nat) (h : plantProblem c (heard s) = some d) :
        actStart c (heard s) = refused .blocked d (heard s) := actStart_blocked hready h
    have hrun (h : plantProblem c (heard s) = none) :
        actStart c (heard s) = channelDone c (runFromStart c (heard s)) := actStart_runs hready h
    obtain ⟨hsupply, hplant⟩ := plantProblem_cases c (heard s)
    rw [hact]
    refine ⟨fun h => ?_, fun h h' => ?_, fun h h' h'' => ?_, fun h h' h'' => ?_⟩
    · rw [hblocked 2 (hsupply h)]; exact congrArg _ (answer_refused _ _ _ _)
    · rw [hblocked 1 ((hplant h).1 h')]; exact congrArg _ (answer_refused _ _ _ _)
    · rw [hblocked 3 (((hplant h).2 h').1 h'')]; exact congrArg _ (answer_refused _ _ _ _)
    · rw [hrun (((hplant h).2 h').2 h'')]; exact congrArg _ (answer_channelDone _ _ _)
  · intro hn hrunning p hp u
    have hskip : actSkip c (heard s) = channelDone c u := by
      unfold actSkip endCurrent
      rw [if_neg (by simp [hrunning])]
      simp only [heard_chan]
      rw [endStage_eq c _ .cut (heard s) p hp]
    rw [(skip_names tag code).acts_always (by simp [runs]) hs hn, hskip, answer_channelDone]

/-! ## PAUSE, RESUME, STOP and CLEAR -/

section

variable {c : Channel} {s : State}

theorem actPause_running (h : (s.chan c).state = .running) :
    actPause c s = channelDone c (pauseChannel c s) := if_neg (by simp [h])

theorem actResume_paused (h : (s.chan c).state = .paused) :
    actResume c s = channelDone c (resumeChannel c s) := if_neg (by simp [h])

theorem actStop_empty (h : (s.chan c).state = .empty) : actStop c s = channelDone c s := by
  unfold actStop; rw [h]

/-- STOP empties a channel that is READY, RUNNING or PAUSED. -/
theorem actStop_held (h : (s.chan c).state = .ready ∨ (s.chan c).state = .running ∨
    (s.chan c).state = .paused) : actStop c s = channelDone c (sync c (emptied c s)) := by
  unfold actStop; obtain h | h | h := h <;> rw [h] <;> rfl

/-- CLEAR empties a channel that is DONE or HALTED. -/
theorem actClear_ended (h : (s.chan c).state = .done ∨ (s.chan c).state = .halted) :
    actClear c s = channelDone c (sync c (emptied c s)) := by
  unfold actClear; obtain h | h := h <;> rw [h] <;> rfl

end

/-- An emptied channel stands in EMPTY at stage 0. -/
theorem standing_emptied (c : Channel) (s : State) :
    standing c (sync c (emptied c s)) = [byteOf (channelCode c), 0, 0] := by
  simp [standing, emptied, stateCode, byteOf]

theorem standing_paused (c : Channel) (s : State) :
    standing c (pauseChannel c s) = [byteOf (channelCode c), 3, byteOf (s.chan c).stageIndex] := by
  simp [standing, pauseChannel, stateCode, byteOf]

/-- Settles O23: each request is its owner's act, and its reply is read from the record it leaves. -/
theorem pauseResumeStopAndClear : Obligations.PauseResumeStopAndClear := by
  intro tag code c s hs hn r req
  refine ⟨fun hst => ?_, ?_, fun hst => ?_, fun hst => ?_, fun hst => ?_⟩
  · rw [(pause_names tag code).acts_always (by simp [runs]) hs hn, actPause_running (s := heard s) hst,
      answer_channelDone, standing_paused]
    rfl
  · intro hst v u
    rw [(resume_names tag code).acts_always (by simp [runs]) hs hn, actResume_paused (s := heard s) hst,
      answer_channelDone]; rfl
  · rw [(stop_names tag code).acts_always (by simp [runs]) hs hn, actStop_empty (s := heard s) hst,
      answer_channelDone]; rfl
  · rw [(stop_names tag code).acts_always (by simp [runs]) hs hn, actStop_held (s := heard s) hst,
      answer_channelDone,
      standing_emptied]
  · rw [(clear_names tag code).acts_always (by simp [runs]) hs hn, actClear_ended (s := heard s) hst,
      answer_channelDone, standing_emptied]

end Sys2Proof.Proofs
end

section
/-! QUICK LEVEL (R22) and the reads (R27, R28, R73). -/

namespace Sys2Proof.Proofs

open Sys2Proof Sys2Proof.Machine Sys2Proof.Claims

/-! ## QUICK LEVEL -/

section

variable {c : Channel} {h : Heater} (hc : hobHeater c = some h)
include hc

theorem hob_ne_ov : c ≠ .ov := by rintro rfl; cases hc

theorem hob_electric : isElectric c = true := by
  cases c <;> simp_all [hobHeater, isElectric]

/-- A zone or the grill asks for the supply and for its own element alone. -/
theorem plantProblem_hob (s : State) :
    plantProblem c s =
      if s.out.supplyOff then some 2 else if (s.heaterOut h).failed then some 1 else none := by
  simp [plantProblem, hob_electric hc, hc, hob_ne_ov hc]

end

/-- The entry of a stage that is not flushed, on a channel other than OV. -/
theorem enterStage_of_ne_ov {c : Channel} {i : Nat} {s : State} {p : PoolRecord} (hc : c ≠ .ov)
    (hp : (s.chan c).plan[i]? = some p) (hf : ¬ flushed p.spec (s.chan c).lastEnd) :
    enterStage c i s = s.setChan c (entered (s.chan c) i p.spec) := by
  have hf' : ¬ (p.spec.cleanOnly = true ∧
    ((s.chan c).lastEnd = .cut ∨ (s.chan c).lastEnd = .flushed)) := hf
  simp only [enterStage, enterFrom, hp, hf', hc, if_false, enterRecord_eq]

/-- The channel record of a QUICK LEVEL: one untimed stage, running at level n (R22). -/
def quickRecord (n level : Nat) : ChannelRec :=
  { state := .running
    plan := [{ spec := quickStage n, mark := .current, targetReached := false }]
    stageIndex := 0, segIndex := 0, segCount := 0, remaining := .untimed
    secondTimer := some 0, pauseTimer := none, lastEnd := .none, haltCause := .none
    planEnd := .none, level := level }

theorem quickPlan_eq {c : Channel} (hc : c ≠ .ov) (n : Nat) (s : State) :
    quickPlan c n s = sync c ((s.withPst
      { s.pst with free := s.pst.free + (s.chan c).plan.length - 1 }).setChan c
        (quickRecord n (s.chan c).level)) := by
  unfold quickPlan runFromStart
  dsimp only
  rw [enterStage_of_ne_ov (p := freshRecord (quickStage n)) hc]
  · simp only [State.setChan_chan_self, setChan_setChan]
    rfl
  · simp [readyRecord]
  · simp [flushed, freshRecord, quickStage]

theorem quickDone_eq (c : Channel) (previous : Nat) (u : State) :
    quickDone c previous u = accepted (standing c u ++ [byteOf previous]) u := rfl

section

variable {c : Channel} {s : State}

theorem quickStop_empty (h : (s.chan c).state = .empty) :
    quickStop c s = quickDone c (previousLevel (s.chan c)) s := by
  unfold quickStop; rw [h]

theorem quickStop_held (h : (s.chan c).state = .ready ∨ (s.chan c).state = .running ∨
    (s.chan c).state = .paused) :
    quickStop c s = quickDone c (previousLevel (s.chan c)) (sync c (emptied c s)) := by
  unfold quickStop; obtain h | h | h := h <;> rw [h] <;> rfl

theorem quickStop_ended (h : (s.chan c).state = .done ∨ (s.chan c).state = .halted) :
    quickStop c s = wrongState c s := by
  unfold quickStop; obtain h | h := h <;> rw [h]

/-- A level on a channel that does not hold a stage builds a plan and runs it, once the plant and the
pool allow it. -/
theorem quickSet_idle {h : Heater} (hc : hobHeater c = some h) (n : Nat)
    (hst : (s.chan c).state = .empty ∨ (s.chan c).state = .ready ∨ (s.chan c).state = .done) :
    quickSet c n s =
      if s.out.supplyOff then refused .blocked 2 s
      else if (s.heaterOut h).failed then refused .blocked 1 s
      else if s.pst.free + (s.chan c).plan.length = 0 then refused .noSpace 0 s
      else quickDone c 0 (quickPlan c n s) := by
  have hplant := plantProblem_hob (s := s) hc
  unfold quickSet
  obtain h | h | h := hst <;> simp only [h, hplant] <;>
    cases s.out.supplyOff <;> cases (s.heaterOut _).failed <;> rfl

/-- A RUNNING stage of a level takes the new one. -/
theorem quickSet_level {p : PoolRecord} (n : Nat) {old : Nat} (hst : (s.chan c).state = .running)
    (hp : (s.chan c).plan[(s.chan c).stageIndex]? = some p) (hk : p.spec.kind = .level old) :
    quickSet c n s = quickDone c old (setLevel c n s) := by
  have hcur : (s.chan c).current = some p := hp
  unfold quickSet
  simp only [hst, hcur, Option.map_some, hk]

theorem quickSet_other {p : PoolRecord} (n : Nat) (hst : (s.chan c).state = .running)
    (hp : (s.chan c).plan[(s.chan c).stageIndex]? = some p) (hk : ∀ old, p.spec.kind ≠ .level old) :
    quickSet c n s = wrongState c s := by
  have hcur : (s.chan c).current = some p := hp
  unfold quickSet
  cases hkind : p.spec.kind <;> simp_all

theorem quickSet_stopped (n : Nat)
    (hst : (s.chan c).state = .paused ∨ (s.chan c).state = .halted) :
    quickSet c n s = wrongState c s := by
  unfold quickSet; obtain h | h := hst <;> simp only [h]

end

/-- Settles O28: the checks of the channel and the level, then QUICK LEVEL as STOP or as a set. -/
theorem quickLevelSetsAZone : Obligations.QuickLevelSetsAZone := by
  intro tag code level c s hs hn n r req run
  have hact : exec (.quickLevel tag code level) s =
      .next (answerRequest req (quickAct n c (heard s))) :=
    (quickLevel_names tag code level).acts_run hs hn
  have hrun {u : Answered} {a : State} (hq : quickAct n c (heard s) = u)
      (ha : answerRequest req u = a) : run a := by
    rw [← ha, ← hq]; exact hact
  refine ⟨fun hc => ?_, fun h hc => ⟨fun hn13 => ?_, ?_, fun h1 h12 => ?_⟩⟩
  · exact hrun (if_pos hc) (answer_refused _ _ _ _)
  · refine hrun ?_ (answer_refused _ _ _ _)
    simp [quickAct, hc, hn13]
  · intro h0 previous
    have hquick : quickAct n c (heard s) = quickStop c (heard s) := by simp [quickAct, hc, h0]
    have hprevious : previousLevel ((heard s).chan c) = previous := by
      simp only [previousLevel, stageLevel, ChannelRec.current, previous, heard_chan, r]
      cases (s.chan c).state <;> cases (s.chan c).plan[(s.chan c).stageIndex]? <;> rfl
    refine ⟨fun hst => ?_, fun hst => ?_, fun hst => ?_⟩
    · refine hrun (hquick.trans (quickStop_empty hst)) ?_
      rw [hprevious, quickDone_eq, answer_accepted]; rfl
    · refine hrun (hquick.trans (quickStop_held hst)) ?_
      rw [hprevious, quickDone_eq, answer_accepted, standing_emptied]; rfl
    · exact hrun (hquick.trans (quickStop_ended hst)) (answer_wrongState _ _ _)
  · have hquick : quickAct n c (heard s) = quickSet c n (heard s) := by
      unfold quickAct; rw [if_neg (by simp [hc]), if_neg (by omega), if_neg (by omega)]
    refine ⟨fun hst => ?_, fun p hst hp => ⟨fun old hk => ?_, fun hk => ?_⟩, fun hst => ?_⟩
    · refine hrun (hquick.trans (quickSet_idle hc n hst)) ?_
      rw [quickPlan_eq (hob_ne_ov hc), quickDone_eq]
      simp only [apply_ite (answerRequest req), answer_refused, answer_accepted]
      have hreply : standing c (sync c (((heard s).withPst
          { (heard s).pst with free := (heard s).pst.free + ((heard s).chan c).plan.length - 1 }).setChan c
            (quickRecord n ((heard s).chan c).level))) = [byteOf (channelCode c), 2, 0] := by
        simp [standing, quickRecord, stateCode, byteOf]
      rw [hreply]
      rfl
    · refine hrun (hquick.trans (quickSet_level n hst hp hk)) ?_
      have hreply : standing c (setLevel c n (heard s)) =
          [byteOf (channelCode c), 2, byteOf r.stageIndex] := by
        simp [standing, setLevel, changeCurrent, ChannelRec.modifyRecord, hst, r, stateCode, byteOf]
      rw [quickDone_eq, answer_accepted, hreply]; rfl
    · have hwrong := hrun (hquick.trans (quickSet_other n hst hp hk)) (answer_wrongState _ _ _)
      rwa [hst] at hwrong
    · exact hrun (hquick.trans (quickSet_stopped n hst)) (answer_wrongState _ _ _)

end Sys2Proof.Proofs
end

section
/-! The reads (R27, R28, R73, R74). -/

namespace Sys2Proof.Proofs

open Sys2Proof Sys2Proof.Machine Sys2Proof.Claims

/-! ## READ CHANNEL -/

theorem readChannel_names (tag code : Byte) :
    NamesChannel (.readChannel tag code) ⟨.unit, 0x28, tag, [code]⟩ .readChannel code 0
      (fun c s => accepted (readChannelReply c s) s) :=
  ⟨rfl, rfl, rfl, rfl, by simp, rfl, rfl, fun _ => rfl⟩

theorem addDurations_timed (n : Nat) (later : List PoolRecord) :
    addDurations (.timed n) later =
      if later.any (fun p => p.spec.duration == 0) then .untimed
      else .timed (n + (later.map (fun p => p.spec.duration)).sum) := by
  have hany : (∃ p ∈ later, p.spec.duration = 0) ↔
      later.any (fun p => p.spec.duration == 0) = true := by simp
  simp only [addDurations, hany]

section

variable {r : ChannelRec}

/-- The states of a channel that holds a stage (Table 1-7). -/
theorem holdsStage_iff :
    holdsStage r.state = true ↔ r.state = .running ∨ r.state = .paused ∨ r.state = .halted := by
  cases r.state <;> simp [holdsStage]

theorem reportedRemaining_holding (h : holdsStage r.state = true) :
    reportedRemaining r = r.remaining := by
  obtain h | h | h := holdsStage_iff.1 h <;> simp [reportedRemaining, h]

/-- In READY the stage remaining is the duration of the first stage (Table 1-7). -/
theorem reportedRemaining_ready (h : r.state = .ready) (hp : r.plan ≠ []) :
    reportedRemaining r = addDurations (.timed 0) (r.plan.take 1) := by
  obtain ⟨p, rest, hplan⟩ := List.exists_cons_of_ne_nil hp
  rw [addDurations_timed]
  by_cases hd : p.spec.duration = 0 <;> simp [reportedRemaining, h, hplan, remainingOf, hd]

theorem reportedRemaining_idle (h : ¬ holdsStage r.state = true) (h' : r.state ≠ .ready) :
    reportedRemaining r = .timed 0 := by
  unfold reportedRemaining; cases hst : r.state <;> simp_all [holdsStage]

theorem planRemaining_holding (h : holdsStage r.state = true) :
    planRemaining r = addDurations r.remaining (r.plan.drop (r.stageIndex + 1)) := by
  obtain h | h | h := holdsStage_iff.1 h <;> simp [planRemaining, h]

theorem planRemaining_ready (h : r.state = .ready) :
    planRemaining r = addDurations (.timed 0) r.plan := by
  simp [planRemaining, h]

theorem planRemaining_idle (h : ¬ holdsStage r.state = true) (h' : r.state ≠ .ready) :
    planRemaining r = .timed 0 := by
  unfold planRemaining; cases hst : r.state <;> simp_all [holdsStage]

end

theorem byteOf_flag (b : Bool) : byteOf (flagNat b) = if b then 1 else 0 := by cases b <;> rfl

theorem byteOf_door (d : DoorPos) : byteOf (doorCode d) = if d = .opened then 1 else 0 := by
  cases d <;> rfl

/-- Settles O29: the reply, field by field. -/
theorem readChannelShowsTheChannel : Obligations.ReadChannelShowsTheChannel := by
  intro tag code s hs hp req
  refine ⟨(readChannel_names tag code).out_of_range hs hp, fun c hc =>
    ⟨(readChannel_names tag code).absent hs hc, ?_⟩⟩
  intro hn hready r chars total live stage plan demand plant
  have hchars (x : Remaining) : remainingChars x = chars x := by cases x <;> rfl
  have htotal (x : Remaining) (later : List PoolRecord) : addDurations x later = total x later := by
    cases x
    · rw [addDurations_timed]
    · rfl
  have hlive : holdsStage r.state = true ↔ live := holdsStage_iff
  have hstage : reportedRemaining r = stage := by
    dsimp only [stage]
    by_cases hl : live
    · rw [if_pos hl, reportedRemaining_holding (hlive.2 hl)]
    · rw [if_neg hl]
      by_cases hr : r.state = .ready
      · rw [if_pos hr, reportedRemaining_ready hr (hready hr), htotal]
      · rw [if_neg hr, reportedRemaining_idle (hl ∘ hlive.1) hr]
  have hplan : planRemaining r = plan := by
    dsimp only [plan]
    by_cases hl : live
    · rw [if_pos hl, planRemaining_holding (hlive.2 hl), htotal]
    · rw [if_neg hl]
      by_cases hr : r.state = .ready
      · rw [if_pos hr, planRemaining_ready hr, htotal]
      · rw [if_neg hr, planRemaining_idle (hl ∘ hlive.1) hr]
  have hseg : byteOf (if holdsStage r.state then r.segIndex else 0) =
      if live then byteOf r.segIndex else 0 := by
    by_cases hl : live
    · rw [if_pos hl, if_pos (hlive.2 hl)]
    · rw [if_neg hl, if_neg (hl ∘ hlive.1)]; rfl
  have hplant : channelPlant c (heard s) = plant := by
    have hf := byteOf_flag s.ovr.fault
    have hd := byteOf_door s.ovr.doorState
    cases c <;> simp only [channelPlant, plant, channelBurner, hobHeater, heard_ovr, hf, hd] <;> rfl
  rw [(readChannel_names tag code).acts_always (by simp [runs]) hs hn, answer_accepted, ← hseg,
    ← hstage, ← hplan, ← hchars, ← hchars, ← hplant]
  cases hpause : r.pauseTimer <;> simp [readChannelReply, ChannelRec.stageCount, r, hpause,
    -List.append_assoc] <;> rfl

/-! ## READ STAGE and READ FRAME -/

/-- What READ STAGE does on a channel. -/
def readAct (index : Nat) (c : Channel) (s : State) : Answered :=
  match (s.chan c).plan[index]? with
  | none => refused .outOfRange (s.chan c).stageCount s
  | some p => readRecord c index p s

section

variable {c : Channel} {i : Nat} {s : State}

theorem readAct_none (h : (s.chan c).plan[i]? = none) :
    readAct i c s = refused .outOfRange (s.chan c).plan.length s := by
  unfold readAct; rw [h]; rfl

theorem readAct_some {p : PoolRecord} (h : (s.chan c).plan[i]? = some p) :
    readAct i c s = readRecord c i p s := by
  unfold readAct; rw [h]

theorem ownReadStageNext_none (h : s.plr.cursor = none) :
    ownReadStageNext s = refused .wrongState 0 s := by
  unfold ownReadStageNext; rw [h]

theorem ownReadStageNext_end (h : s.plr.cursor = some (c, i))
    (hp : (s.chan c).plan[i + 1]? = none) : ownReadStageNext s = refused .outOfRange 0 s := by
  unfold ownReadStageNext; simp only [h, hp]

theorem ownReadStageNext_some {p : PoolRecord} (h : s.plr.cursor = some (c, i))
    (hp : (s.chan c).plan[i + 1]? = some p) :
    ownReadStageNext s = readRecord c (i + 1) p s := by
  unfold ownReadStageNext; simp only [h, hp]

theorem ownReadFrame_out_of_range {n : Nat} (h : 6 ≤ n) :
    ownReadFrame n s = refused .outOfRange 1 s := by
  unfold ownReadFrame; rw [heaterOf_eq_none h]

theorem ownReadFrame_heater (h : Heater) (s : State) :
    ownReadFrame (heaterCode h) s =
      if s.cfg.part = .operating ∧ (s.install h).installed = false then refused .absent 0 s
      else accepted (readFrameReply h s) s := by
  unfold ownReadFrame; rw [heaterOf_code]

end

theorem readStage_names (tag code index : Byte) :
    NamesChannel (.readStage tag code index) ⟨.unit, 0x29, tag, [code, index]⟩ .readStage code 0
      (readAct index.toNat) :=
  ⟨rfl, rfl, rfl, rfl, by simp, rfl, rfl, fun _ => rfl⟩

/-- The reply of a read record (Tables 8-9 and 8-11). -/
theorem stageReply_eq (c : Channel) (i : Nat) (p : PoolRecord) :
    stageReply c i p =
      [byteOf (channelCode c), byteOf i, byteOf (markCode p.mark), byteOf (markEndCode p.mark),
        if stageKindCode p.spec.kind = 4 ∧ p.targetReached = true then 1 else 0] ++
        recordChars p.spec := by
  have hflag : byteOf (flagNat (stageKindCode p.spec.kind == 4 && p.targetReached)) =
      if stageKindCode p.spec.kind = 4 ∧ p.targetReached = true then 1 else 0 := by
    simp [byteOf_flag]
  rw [stageReply, hflag]

/-- A record read is replied, and the cursor stands on it (R27). -/
theorem answer_readRecord (r : Request) (c : Channel) (i : Nat) (p : PoolRecord) (s : State) :
    answerRequest r (readRecord c i p s) =
      accepts r ([byteOf (channelCode c), byteOf i, byteOf (markCode p.mark),
        byteOf (markEndCode p.mark),
        if stageKindCode p.spec.kind = 4 ∧ p.targetReached = true then 1 else 0] ++
        recordChars p.spec) (s.withPlr { s.plr with cursor := some (c, i) }) := by
  rw [readRecord, answer_accepted, stageReply_eq]

/-- READ STAGE NEXT is answered from the read cursor. -/
theorem readStageNext_answers (tag : Byte) {s : State} (hs : free s) (hp : s.cfg.part ≠ .locked) :
    exec (.readStageNext tag) s =
      .next (answerRequest ⟨.unit, 0x29, tag, []⟩ (ownReadStageNext (heard s))) :=
  exec_passed (k := .readStage) rfl (by simp) hs rfl rfl (.inl hp) (fun _ => rfl) (fun _ => rfl)

theorem readFrame_answers (tag code : Byte) {s : State} (hs : free s) (hp : s.cfg.part ≠ .locked) :
    exec (.readFrame tag code) s =
      .next (answerRequest ⟨.unit, 0x2A, tag, [code]⟩ (ownReadFrame code.toNat (heard s))) :=
  exec_passed (k := .readFrame) rfl (by simp) hs rfl rfl (.inl hp) (fun _ => rfl) (fun _ => rfl)

/-- Bit i of a mask is its i-th flag. -/
theorem maskOf_testBit (bits : List Bool) (i : Nat) : (maskOf bits).testBit i = bits.getD i false := by
  induction bits generalizing i with
  | nil => simp [maskOf]
  | cons b bits ih =>
    cases i with
    | zero => cases b <;> simp [maskOf, flagNat, Nat.testBit_zero, Nat.add_mod]
    | succ i =>
      have hhalf : (flagNat b + 2 * maskOf bits) / 2 = maskOf bits := by
        cases b
        · simp [flagNat]
        · simp [flagNat]; omega
      rw [maskOf, Nat.testBit_succ, hhalf, ih]; simp

theorem maskByte_getLsbD (bits : List Bool) {j : Nat} (hj : j < 8) :
    (byteOf (maskOf bits)).getLsbD j = bits.getD j false := by
  rw [byteOf, BitVec.getLsbD_ofNat, maskOf_testBit]; simp [hj]

/-- Each slot stands in its own bit, the lowest of eight in bit 0 (log 32). -/
theorem placementChars_bit (placed : Slots Bool) (i : Fin 32) :
    ((placementChars placed).getD (i.val / 8) 0).getLsbD (i.val % 8) = placed.get i := by
  have hj : i.val % 8 < 8 := Nat.mod_lt _ (by decide)
  have hget : placed.get i = placed.toList.getD (8 * (i.val / 8) + i.val % 8) false := by
    rw [Nat.div_add_mod, List.getD_eq_getElem?_getD]; simp [Vector.get_eq_getElem]
  have hq : i.val / 8 = 0 ∨ i.val / 8 = 1 ∨ i.val / 8 = 2 ∨ i.val / 8 = 3 := by omega
  rw [hget]
  obtain h | h | h | h := hq <;> rw [h] <;> refine (maskByte_getLsbD _ hj).trans ?_ <;>
    generalize placed.toList = bits <;> simp [List.getD_eq_getElem?_getD, hj]

/-- Settles O30: the two reads of a record and their cursor, READ FRAME, the bits of a placement set. -/
theorem readStageAndReadFrame : Obligations.ReadStageAndReadFrame := by
  refine ⟨?_, ?_, fun placed i => ⟨rfl, placementChars_bit placed i⟩⟩
  · intro tag s hs hp shows reads
    refine ⟨fun code index => ?_, ?_⟩
    · intro req
      refine ⟨?_, fun c hc => ⟨?_, fun hn => ⟨fun hnone => ?_, fun p hsome => ?_⟩⟩⟩
      · exact (readStage_names tag code index).out_of_range hs hp
      · exact (readStage_names tag code index).absent hs hc
      · rw [(readStage_names tag code index).acts_always (by simp [runs]) hs hn,
          readAct_none (s := heard s) hnone, answer_refused]; rfl
      · rw [(readStage_names tag code index).acts_always (by simp [runs]) hs hn,
          readAct_some (s := heard s) hsome, answer_readRecord]; rfl
    · intro req
      rw [readStageNext_answers tag hs hp]
      refine ⟨fun hnone => ?_, fun c i hcur => ⟨fun hnone => ?_, fun p hsome => ?_⟩⟩
      · rw [ownReadStageNext_none (s := heard s) hnone, answer_refused]
      · rw [ownReadStageNext_end (s := heard s) hcur hnone, answer_refused]
      · rw [ownReadStageNext_some (s := heard s) hcur hsome, answer_readRecord]; rfl
  · intro tag code s hs hp req
    rw [readFrame_answers tag code hs hp]
    refine ⟨fun hc => ?_, fun h hc => ?_⟩
    · rw [ownReadFrame_out_of_range hc, answer_refused]
    · rw [hc, ownReadFrame_heater]
      intro r
      by_cases ha : s.cfg.part = .operating ∧ (s.install h).installed = false
      · rw [if_pos ha, if_pos (by simpa using ha), answer_refused]
      · rw [if_neg ha, if_neg (by simpa using ha), answer_accepted]; rfl

end Sys2Proof.Proofs
end

section
/-! PLAN BEGIN, the idle timer of the load context, and PLAN COMMIT (R9, R12 to R14). -/

namespace Sys2Proof.Proofs

open Sys2Proof Sys2Proof.Machine Sys2Proof.Claims

/-! ## PLAN BEGIN -/

/-- What PLAN BEGIN does on a channel. -/
def beginAct (count : Nat) (c : Channel) (s : State) : Answered :=
  if count < 1 ∨ 12 < count then refused .outOfRange 0 s
  else
    accepted
      [byteOf (channelCode c), byteOf count, byteOf (s.pst.free + (s.chan c).stageCount)]
      (s.withPst { s.pst with
        load := some { target := c, expected := count, staged := [], idle := some 10000 } })

theorem planBegin_names (tag code count : Byte) :
    NamesChannel (.planBegin tag code count) ⟨.unit, 0x10, tag, [code, count]⟩ .planBegin code 0
      (beginAct count.toNat) :=
  ⟨rfl, rfl, rfl, rfl, by simp, rfl, rfl, fun _ => rfl⟩

theorem execLoadIdleTimeout_running {s : State} {l : LoadContext} {n : Nat} (hl : s.pst.load = some l)
    (hn : l.idle = some n) :
    execLoadIdleTimeout s = .next (s.withPst { s.pst with load := none }) := by
  simp [execLoadIdleTimeout, hl, hn, closeLoad]

theorem execLoadIdleTimeout_stopped {s : State} (h : ∀ l ∈ s.pst.load, l.idle = none) :
    execLoadIdleTimeout s = .next s := by
  cases hl : s.pst.load with
  | none => simp [execLoadIdleTimeout, hl]
  | some l => simp [execLoadIdleTimeout, hl, h l hl]

/-- Settles O15: the checks of PLAN BEGIN and its fresh context; the expiry by cases of the context. -/
theorem loadContextOpensAndTimesOut : Obligations.LoadContextOpensAndTimesOut := by
  refine ⟨fun tag code count s hs => ?_, fun s =>
    ⟨fun l n hl hn => execLoadIdleTimeout_running hl hn, execLoadIdleTimeout_stopped⟩⟩
  intro r
  have names := planBegin_names tag code count
  refine ⟨fun hc hp => names.out_of_range hs hp hc, fun c hc hop ha => names.absent hs hc hop ha,
    fun c hn => ?_⟩
  rw [names.acts_run hs hn, beginAct]
  by_cases hcount : 1 ≤ count.toNat ∧ count.toNat ≤ 12
  · rw [if_neg (by omega), if_pos hcount, answer_accepted, byteOf_self]; rfl
  · rw [if_pos (by omega), if_neg hcount, answer_refused]

/-! ## PLAN COMMIT -/

theorem planCommit_answers (tag : Byte) {s : State} (hs : free s) (hp : s.cfg.part ≠ .locked) :
    exec (.planCommit tag) s =
      .next (answerRequest ⟨.unit, 0x12, tag, []⟩ (ownPlanCommit (heard s))) :=
  exec_passed (k := .planCommit) rfl (by simp) hs rfl rfl (.inl hp) (fun _ => rfl) (fun _ => rfl)

theorem ownPlanCommit_closed {s : State} (h : s.pst.load = none) :
    ownPlanCommit s = refused .noLoad 0 s := by
  unfold ownPlanCommit; rw [h]

theorem ownPlanCommit_refused {s : State} {load : LoadContext} {cause : Cause} {detail : Nat}
    (h : s.pst.load = some load) (hp : commitProblem load s = some (cause, detail)) :
    ownPlanCommit s = refused cause detail (closeLoad s) := by
  unfold ownPlanCommit; simp only [h, hp]

/-- The channel record of a plan just committed (R14): READY at stage 0, every record pending. -/
theorem readyRecord_eq (staged : List StageSpec) (level : Nat) :
    readyRecord (staged.map freshRecord) level =
      { state := .ready
        plan := staged.map (fun p => { spec := p, mark := .pending, targetReached := false })
        stageIndex := 0, segIndex := 0, segCount := 0
        remaining := remainingOf ((staged.head?.map (fun p => p.duration)).getD 0)
        secondTimer := none, pauseTimer := none, lastEnd := .none, haltCause := .none
        planEnd := .none, level := level } := by
  cases staged <;> rfl

/-- An accepted PLAN COMMIT, with the reply read from the staged records. -/
theorem ownPlanCommit_done {s : State} {load : LoadContext} (h : s.pst.load = some load)
    (hp : commitProblem load s = none) :
    let c := load.target
    let free' := s.pst.free + (s.chan c).plan.length - load.staged.length
    ownPlanCommit s = accepted
      [byteOf (channelCode c), byteOf load.staged.length, byteOf free']
      (sync c ((s.withPst { free := free', load := none }).setChan c
        (readyRecord (load.staged.map freshRecord) (s.chan c).level))) := by
  unfold ownPlanCommit
  simp only [h, hp]
  simp [readyRecord, ChannelRec.stageCount]

theorem isBake_iff (p : StageSpec) : stageKindCode p.kind = 4 ↔ ∃ m t, p.kind = .bake m t := by
  cases p.kind <;> simp [stageKindCode]

/-- A stage but the last is untimed. -/
theorem exists_dropLast_untimed (staged : List StageSpec) :
    (∃ p ∈ staged.dropLast, p.duration = 0) ↔
      ∃ i, i + 1 < staged.length ∧ (staged[i]?).map (fun p => p.duration) = some 0 := by
  constructor
  · rintro ⟨p, hp, hd⟩
    obtain ⟨i, hi, rfl⟩ := List.getElem_of_mem hp
    have hi' : i + 1 < staged.length := by simp at hi; omega
    exact ⟨i, hi', by simpa [show i < staged.length by omega] using hd⟩
  · rintro ⟨i, hi, hd⟩
    have hlt : i < staged.dropLast.length := by simp; omega
    refine ⟨staged.dropLast[i], List.getElem_mem hlt, ?_⟩
    simpa [show i < staged.length by omega] using hd

/-- The first failed check of PLAN COMMIT from check 2 on, in the terms of R13. -/
theorem commitProblem_cases (load : LoadContext) (s : State) :
    let r := s.chan load.target
    let available := s.pst.free + r.plan.length
    let blocked := load.target = .ov ∧ s.ovr.fault = true ∧ ∃ p ∈ load.staged, ∃ m t, p.kind = .bake m t
    let untimed := ∃ i : Nat, i + 1 < load.staged.length ∧
      (load.staged[i]?).map (fun p => p.duration) = some 0
    (load.staged.length < load.expected →
      commitProblem load s = some (.sequence, load.staged.length)) ∧
    (load.expected ≤ load.staged.length →
      (r.state = .running ∨ r.state = .paused →
        commitProblem load s = some (.busy, stateCode r.state)) ∧
      (r.state = .halted → commitProblem load s = some (.wrongState, 5)) ∧
      (r.state = .empty ∨ r.state = .ready ∨ r.state = .done →
        (blocked → commitProblem load s = some (.blocked, 3)) ∧
        (¬ blocked → untimed → commitProblem load s = some (.outOfRange, 12)) ∧
        (¬ blocked → ¬ untimed → available < load.expected →
          commitProblem load s = some (.noSpace, available)) ∧
        (¬ blocked → ¬ untimed → load.expected ≤ available → commitProblem load s = none))) := by
  intro r available blocked untimed
  have hu : (∃ p ∈ load.staged.dropLast, p.duration = 0) ↔ untimed := exists_dropLast_untimed _
  have hb : (load.target = .ov ∧ s.ovr.fault = true ∧
      ∃ p ∈ load.staged, stageKindCode p.kind = 4) ↔ blocked := by
    simp only [isBake_iff]; rfl
  unfold commitProblem
  dsimp only
  refine ⟨fun h => if_pos h, fun h => ?_⟩
  rw [if_neg (by omega)]
  refine ⟨fun hst => if_pos hst, fun hst => ?_, fun hst => ?_⟩
  · have hst' : (s.chan load.target).state = .halted := hst
    simp [hst', stateCode]
  · have hidle : ¬ (r.state = .running ∨ r.state = .paused) ∧ r.state ≠ .halted := by
      obtain hst | hst | hst := hst <;> simp [hst]
    rw [if_neg hidle.1, if_neg hidle.2]
    refine ⟨fun h1 => if_pos (hb.2 h1), fun h1 h2 => ?_, fun h1 h2 h3 => ?_, fun h1 h2 h3 => ?_⟩ <;>
      rw [if_neg (h1 ∘ hb.1)]
    · exact if_pos (hu.2 h2)
    · rw [if_neg (h2 ∘ hu.1)]; exact if_pos h3
    · rw [if_neg (h2 ∘ hu.1)]; exact if_neg (Nat.not_lt.2 h3)

/-- Settles O18: each refusal is the first failed check of commitProblem_cases. -/
theorem refusedCommitClosesTheContext : Obligations.RefusedCommitClosesTheContext := by
  intro tag s hs hp r closed
  rw [planCommit_answers tag hs hp]
  refine ⟨fun hl => ?_, fun load hl => ?_⟩
  · rw [ownPlanCommit_closed (s := heard s) hl, answer_refused]
  · intro rec' have' bake blocked untimed
    have href {cause : Cause} {detail : Nat}
        (h : commitProblem load (heard s) = some (cause, detail)) :
        (.next (answerRequest r (ownPlanCommit (heard s))) : Result) =
          .next (refuses r cause detail closed) := by
      rw [ownPlanCommit_refused (s := heard s) hl h, answer_refused]; rfl
    obtain ⟨hseq, hrest⟩ := commitProblem_cases load (heard s)
    refine ⟨fun h => href (hseq h), fun h => ?_⟩
    obtain ⟨hbusy, hhalted, hidle⟩ := hrest h
    refine ⟨fun hst => href (hbusy hst), fun hst => href (hhalted hst), fun hst => ?_⟩
    obtain ⟨hblocked, huntimed, hspace, -⟩ := hidle hst
    exact ⟨fun h1 => href (hblocked h1), fun h1 h2 => href (huntimed h1 h2),
      fun h1 h2 h3 => href (hspace h1 h2 h3)⟩

/-- Settles O19: with every check passed the channel takes the staged plan, and sync follows. -/
theorem commitMakesTheChannelReady : Obligations.CommitMakesTheChannelReady := by
  intro tag load s hs hp hl hlen c old hst hfault htimed hspace first free'
  have hnone : commitProblem load (heard s) = none := by
    obtain ⟨-, -, hidle⟩ := (commitProblem_cases load (heard s)).2 hlen.ge
    refine (hidle hst).2.2.2 ?_ ?_ hspace
    · rintro ⟨hov, hf, p, hp, m, t, hk⟩
      exact hfault hf hov p hp m t hk
    · rintro ⟨i, hi, hd⟩
      exact htimed i hi hd
  rw [planCommit_answers tag hs hp, ownPlanCommit_done (s := heard s) hl hnone, answer_accepted,
    hlen, readyRecord_eq]
  rfl

end Sys2Proof.Proofs
end

section
/-! The characters of a stage record (R3, R4, R10, R11, Tables 1-5 and 8-11). -/

namespace Sys2Proof.Proofs

open Sys2Proof Sys2Proof.Machine Sys2Proof.Claims

/-! ## The checks of a record -/

theorem firstFailed_nil : firstFailed [] = none := rfl

theorem firstFailed_cons (d : Nat) (b : Bool) (rest : List (Nat × Bool)) :
    firstFailed ((d, b) :: rest) = if b then firstFailed rest else some d := by
  cases b <;> simp [firstFailed]

/-- One check written as a failure and as a success. -/
theorem check_step {p : Prop} [Decidable p] {b : Bool} {d : Nat} {x y : Option Nat}
    (h : ¬ p ↔ b = true) (hxy : x = y) :
    (if p then some d else x) = if b then y else some d := by
  subst hxy
  by_cases hp : p
  · rw [if_pos hp, if_neg (fun hb => h.2 hb hp)]
  · rw [if_neg hp, if_pos (h.1 hp)]

/-- The flag bits 2 and 3 of a character. -/
theorem flagBits_clear_iff (b : Byte) :
    ¬ (b.getLsbD 2 = true ∨ b.getLsbD 3 = true) ↔ b.toNat / 4 % 4 = 0 := by
  simp only [BitVec.getLsbD, Nat.testBit_eq_decide_div_mod_eq, decide_eq_true_eq]
  omega

theorem kindAccepted_eq (k : Nat) (c : Channel) :
    kindAccepted k c =
      (if (channelBurner c).isSome then [5] else if c = .ov then [3, 4] else [1, 2, 3]).contains k := by
  rw [Bool.eq_iff_iff]
  cases c <;> simp [kindAccepted, channelBurner, or_assoc]

/-- The check of the model is Table 1-5's list of checks. -/
theorem recordProblem_eq (rec : List Byte) (c : Channel) :
    recordProblem rec c = firstFailed (recordChecks rec c) := by
  simp only [recordChecks, firstFailed_cons, firstFailed_nil]
  have hflags := flagBits_clear_iff (charAt rec 1)
  have h24 : num24 rec 2 = 65536 * (rec.getD 2 0).toNat + 256 * (rec.getD 3 0).toNat +
      (rec.getD 4 0).toNat := by simp only [num24, num8, charAt, Nat.reduceAdd]; omega
  have h7 : num16 rec 7 = 256 * (rec.getD 7 0).toNat + (rec.getD 8 0).toNat := by
    simp only [num16, num8, charAt, Nat.reduceAdd]; omega
  have h6 : num16 rec 6 = 256 * (rec.getD 6 0).toNat + (rec.getD 7 0).toNat := by
    simp only [num16, num8, charAt, Nat.reduceAdd]; omega
  unfold recordProblem
  simp only [h24, h7, h6, kindAccepted_eq, segmentCount]
  simp only [num8, charAt] at hflags ⊢
  refine check_step ?_ (check_step ?_ (check_step ?_ (check_step ?_ (check_step ?_ (check_step ?_
    (check_step ?_ (check_step ?_ (check_step ?_ (check_step ?_ (check_step ?_ rfl))))))))))
  · simp only [decide_eq_true_eq]; omega
  · exact iff_of_eq (Bool.not_eq_false _)
  · simp only [decide_eq_true_eq, ← hflags]; tauto
  all_goals simp only [decide_eq_true_eq]; omega

/-! ## Reading a record back -/

theorem byteOf_eq {n : Nat} {b : Byte} (h : n % 256 = b.toNat) : byteOf n = b :=
  BitVec.eq_of_toNat_eq (by simp [h])

theorem be24_chars (a b c : Byte) : be24 (a.toNat * 65536 + b.toNat * 256 + c.toNat) = [a, b, c] := by
  rw [be24, byteOf_eq (b := a) (by omega), byteOf_eq (b := b) (by omega), byteOf_eq (b := c) (by omega)]

theorem be16_chars (a b : Byte) : be16 (a.toNat * 256 + b.toNat) = [a, b] := by
  rw [be16, byteOf_eq (b := a) (by omega), byteOf_eq (b := b) (by omega)]

/-- The stored flags are the low four bits of their character (R172). -/
theorem flagsChar_of_bits (p : StageSpec) (b : Byte) (h0 : p.notify = b.getLsbD 0)
    (h1 : p.cleanOnly = b.getLsbD 1) (h2 : p.endOnTarget = b.getLsbD 2)
    (h3 : p.preheat = b.getLsbD 3) : flagsChar p = b &&& 0x0F := by
  apply BitVec.eq_of_getLsbD_eq
  intro j hj
  rw [flagsChar, maskByte_getLsbD _ hj, h0, h1, h2, h3]
  interval_cases j <;> simp

theorem flagsChar_getLsbD (p : StageSpec) :
    (flagsChar p).getLsbD 0 = p.notify ∧ (flagsChar p).getLsbD 1 = p.cleanOnly ∧
      (flagsChar p).getLsbD 2 = p.endOnTarget ∧ (flagsChar p).getLsbD 3 = p.preheat := by
  refine ⟨?_, ?_, ?_, ?_⟩ <;> exact maskByte_getLsbD _ (by decide)

/-- Each kind has its length (Table 8-11). -/
theorem recordLength_cases {k n : Nat} (h : recordLength k = some n) :
    (k = 1 ∧ n = 6) ∨ (k = 2 ∧ n = 9) ∨ (k = 3 ∧ n = 5) ∨ (k = 4 ∧ n = 8) ∨ (k = 5 ∧ n = 5) := by
  unfold recordLength at h; split at h <;> simp_all

theorem exists_five_chars {rec : List Byte} (h : 5 ≤ rec.length) :
    ∃ k f a b c tail, rec = k :: f :: a :: b :: c :: tail ∧ rec.length = tail.length + 5 := by
  match rec, h with
  | k :: f :: a :: b :: c :: tail, _ => exact ⟨k, f, a, b, c, tail, rfl, rfl⟩

theorem modeOf_of_le {n : Nat} (h : n ≤ 5) : ∃ m, modeOf n = some m ∧ modeCode m = n := by
  interval_cases n <;> exact ⟨_, rfl, rfl⟩

/-- A record with the characters of its kind is spelled again, but for the flag bits not stored. -/
theorem recordChars_recordOf {rec : List Byte} (hlen : recordLength (num8 rec 0) = some rec.length)
    (hmode : num8 rec 0 = 4 → num8 rec 5 ≤ 5) :
    recordChars (recordOf rec) = rec.set 1 (rec.getD 1 0 &&& 0x0F) := by
  have hflags : flagsChar (recordOf rec) = rec.getD 1 0 &&& 0x0F :=
    flagsChar_of_bits _ _ rfl rfl rfl rfl
  have hk := recordLength_cases hlen
  obtain ⟨k, f, a, b, c, tail, rfl, htail⟩ := exists_five_chars (rec := rec) (by omega)
  have hd : be24 (num24 (k :: f :: a :: b :: c :: tail) 2) = [a, b, c] := be24_chars a b c
  have hkind : ∀ code, k.toNat = code → byteOf code = k := fun code h => h ▸ byteOf_self k
  rw [recordChars, hflags]
  simp only [recordOf, hd]
  obtain ⟨h, hl⟩ | ⟨h, hl⟩ | ⟨h, hl⟩ | ⟨h, hl⟩ | ⟨h, hl⟩ := hk
  · obtain ⟨x, rfl⟩ := List.length_eq_one_iff.1 (by omega : tail.length = 1)
    simp only [recordKind, h]
    simp [stageKindCode, hkind 1 h, num8, charAt, byteOf_self]
  · obtain ⟨x, y, u, v, rfl⟩ := List.length_eq_four.1 (by omega : tail.length = 4)
    have hseg : be16 (num16 (k :: f :: a :: b :: c :: [x, y, u, v]) 7) = [u, v] := be16_chars u v
    simp only [recordKind, h]
    simp [stageKindCode, hkind 2 h, hseg, num8, charAt, byteOf_self]
  · obtain rfl := List.length_eq_zero_iff.1 (by omega : tail.length = 0)
    simp only [recordKind, h]
    simp [stageKindCode, hkind 3 h]
  · obtain ⟨x, u, v, rfl⟩ := List.length_eq_three.1 (by omega : tail.length = 3)
    have hset : be16 (num16 (k :: f :: a :: b :: c :: [x, u, v]) 6) = [u, v] := be16_chars u v
    obtain ⟨m, hm, hx⟩ := modeOf_of_le (hmode h)
    simp only [recordKind, h, hm]
    simp [stageKindCode, hkind 4 h, hset, hx, num8, charAt, byteOf_self]
  · obtain rfl := List.length_eq_zero_iff.1 (by omega : tail.length = 0)
    simp only [recordKind, h]
    simp [stageKindCode, hkind 5 h]

/-! ## What the checks ask -/

theorem check_none_iff {p : Prop} [Decidable p] {d : Nat} {x : Option Nat} :
    (if p then some d else x) = none ↔ ¬ p ∧ x = none := by
  by_cases hp : p <;> simp [hp]

/-- The checks of Table 1-5 all pass. -/
theorem recordProblem_eq_none_iff (rec : List Byte) (c : Channel) :
    recordProblem rec c = none ↔
      (1 ≤ num8 rec 0 ∧ num8 rec 0 ≤ 5) ∧ kindAccepted (num8 rec 0) c = true ∧
        (num8 rec 0 ≠ 4 → (charAt rec 1).getLsbD 2 = false ∧ (charAt rec 1).getLsbD 3 = false) ∧
        num24 rec 2 ≤ 86399 ∧
        (num8 rec 0 = 1 → 1 ≤ num8 rec 5 ∧ num8 rec 5 ≤ 12) ∧
        (num8 rec 0 = 2 → num8 rec 5 ≤ 12 ∧ num8 rec 6 ≤ 12 ∧
          30 ≤ num16 rec 7 ∧ num16 rec 7 ≤ 3600 ∧ num16 rec 7 ≤ num24 rec 2 ∧
          segmentCount (num24 rec 2) (num16 rec 7) ≤ 64) ∧
        (num8 rec 0 = 4 → num8 rec 5 ≤ 5 ∧ 30 ≤ num16 rec 6 ∧ num16 rec 6 ≤ 275) := by
  simp only [recordProblem, check_none_iff]
  constructor
  · rintro ⟨h1, h2, h3, h4, h5, h6, h7, h8, h9, h10, h11, -⟩
    refine ⟨by omega, by simpa using h2, fun hk => ?_, by omega, by omega, by omega, by omega⟩
    simpa [hk] using h3
  · rintro ⟨h1, h2, h3, h4, h5, h6, h7⟩
    refine ⟨by omega, by simp [h2], ?_, by omega, by omega, by omega, by omega, by omega, by omega,
      by omega, by omega, trivial⟩
    rintro ⟨hk, hbit⟩
    obtain ⟨hbit2, hbit3⟩ := h3 hk
    simp only [hbit2, hbit3, Bool.false_eq_true, or_self] at hbit

/-- The kinds of a channel by what the channel is (Table 1-4). -/
theorem kindAccepted_iff (k : Nat) (c : Channel) :
    kindAccepted k c = true ↔
      ((k = 1 ∨ k = 2) ∧ (hobHeater c).isSome = true) ∨ (k = 3 ∧ isElectric c = true) ∨
        (k = 4 ∧ c = .ov) ∨ (k = 5 ∧ (channelBurner c).isSome = true) := by
  cases c <;> simp [kindAccepted, hobHeater, isElectric, channelBurner, or_assoc]

/-- Characters that pass every check spell a record that fits. -/
theorem stageFits_recordOf {rec : List Byte} {c : Channel} (h : recordProblem rec c = none) :
    stageFits (recordOf rec) c := by
  obtain ⟨-, hc, hflags, hdur, h1, h2, h4⟩ := (recordProblem_eq_none_iff rec c).1 h
  refine ⟨hdur, ?_⟩
  rw [kindAccepted_iff] at hc
  simp only [recordOf, recordKind]
  obtain ⟨h | h, hc⟩ | ⟨h, hc⟩ | ⟨h, hc⟩ | ⟨h, hc⟩ := hc
  · obtain ⟨hlow, hhigh⟩ := h1 h
    simpa only [h] using ⟨hc, hlow, hhigh, hflags (by omega)⟩
  · obtain ⟨ha, hb, hlow, hhigh, hdur', hcount⟩ := h2 h
    simpa only [h] using ⟨hc, ha, hb, hlow, hhigh, hdur', hcount, hflags (by omega)⟩
  · simpa only [h] using ⟨hc, hflags (by omega)⟩
  · obtain ⟨-, hlow, hhigh⟩ := h4 h
    simpa only [h] using ⟨hc, hlow, hhigh⟩
  · simpa only [h] using ⟨hc, hflags (by omega)⟩

/-! ## Round trip -/

/-- A record's kind has its code first, then its flags, and its duration (Table 8-11). -/
theorem recordChars_head (p : StageSpec) (hd : p.duration ≤ 86399) :
    num8 (recordChars p) 0 = stageKindCode p.kind ∧ charAt (recordChars p) 1 = flagsChar p ∧
      num24 (recordChars p) 2 = p.duration := by
  refine ⟨?_, rfl, ?_⟩
  · show (byteOf (stageKindCode p.kind)).toNat = _
    cases p.kind <;> rfl
  · exact num24_be24 (by omega) [byteOf (stageKindCode p.kind), flagsChar p] _

/-- A record that fits is spelled by its characters, which pass the checks (Tables 1-5, 8-11). -/
theorem recordChars_roundTrip {p : StageSpec} {c : Channel} (h : stageFits p c) :
    recordOf (recordChars p) = p ∧ recordProblem (recordChars p) c = none := by
  obtain ⟨hd, hfit⟩ := h
  obtain ⟨hkind, hflags, hdur⟩ := recordChars_head p hd
  obtain ⟨h0, h1, h2, h3⟩ := flagsChar_getLsbD p
  rw [recordProblem_eq_none_iff, kindAccepted_iff]
  simp only [recordOf, recordKind, hkind, hflags, hdur, h0, h1, h2, h3]
  cases hk : p.kind with
  | level n =>
    simp only [hk] at hfit
    obtain ⟨hc, hlow, hhigh, htarget, hpre⟩ := hfit
    have h5 : num8 (recordChars p) 5 = n := by
      rw [recordChars, hk]; exact (byteOf_toNat n).trans (by omega)
    exact ⟨by simp [stageKindCode, h5, ← hk],
      by simp [stageKindCode, h5, hc, hlow, hhigh, htarget, hpre, hd]⟩
  | ramp a b l =>
    simp only [hk] at hfit
    obtain ⟨hc, ha, hb, hlow, hhigh, hdur', hcount, htarget, hpre⟩ := hfit
    have h5 : num8 (recordChars p) 5 = a := by
      rw [recordChars, hk]; exact (byteOf_toNat a).trans (by omega)
    have h6 : num8 (recordChars p) 6 = b := by
      rw [recordChars, hk]; exact (byteOf_toNat b).trans (by omega)
    have h7 : num16 (recordChars p) 7 = l := by
      rw [recordChars, hk]
      exact num16_be16 (by omega) ([byteOf (stageKindCode (.ramp a b l)), flagsChar p] ++
        be24 p.duration ++ [byteOf a, byteOf b]) []
    exact ⟨by simp [stageKindCode, h5, h6, h7, ← hk], by simp [stageKindCode, h5, h6, h7, hc, ha, hb,
      hlow, hhigh, hdur', segmentCount, hcount, htarget, hpre, hd]⟩
  | wait =>
    simp only [hk] at hfit
    obtain ⟨hc, htarget, hpre⟩ := hfit
    exact ⟨by simp [stageKindCode, ← hk], by simp [stageKindCode, hc, htarget, hpre, hd]⟩
  | bake m t =>
    simp only [hk] at hfit
    obtain ⟨rfl, hlow, hhigh⟩ := hfit
    have hm : modeCode m ≤ 5 := by cases m <;> decide
    have h5 : num8 (recordChars p) 5 = modeCode m := by
      rw [recordChars, hk]; exact (byteOf_toNat _).trans (by omega)
    have h6 : num16 (recordChars p) 6 = t := by
      rw [recordChars, hk]
      exact num16_be16 (by omega) ([byteOf (stageKindCode (.bake m t)), flagsChar p] ++
        be24 p.duration ++ [byteOf (modeCode m)]) []
    simp [stageKindCode, h5, h6, hm, hlow, hhigh, hd, ← hk]
  | flame =>
    simp only [hk] at hfit
    obtain ⟨hc, htarget, hpre⟩ := hfit
    exact ⟨by simp [stageKindCode, ← hk], by simp [stageKindCode, hc, htarget, hpre, hd]⟩

theorem recordLength_chars (p : StageSpec) :
    recordLength (stageKindCode p.kind) = some (recordChars p).length := by
  unfold recordChars; cases p.kind <;> rfl

/-- Settles O60. -/
theorem stageRecordsRoundTrip : Obligations.StageRecordsRoundTrip := fun p _ h =>
  ⟨(recordChars_roundTrip h).1, (recordChars_roundTrip h).2, recordLength_chars p, rfl⟩

/-! ## PLAN STAGE -/

section

variable {tag index : Byte} {record : List Byte} {s : State}

theorem planStage_answers (hs : free s) (hp : s.cfg.part ≠ .locked) (hlow : 5 ≤ record.length)
    (hhigh : record.length ≤ 9) :
    exec (.planStage tag index record) s =
      .next (answerRequest ⟨.unit, 0x11, tag, index :: record⟩
        (ownPlanStage index.toNat record (heard s))) :=
  exec_passed (k := .planStage) rfl (by simp; omega) hs rfl (by simp [lengthFits]; omega) (.inl hp)
    (fun _ => rfl) (fun _ => rfl)

end

section

variable {index : Nat} {record : List Byte} {s : State} {load : LoadContext}

theorem ownPlanStage_closed (h : s.pst.load = none) :
    ownPlanStage index record s = refused .noLoad 0 s := by
  unfold ownPlanStage; rw [h]

theorem ownPlanStage_sequence (h : s.pst.load = some load)
    (hi : index ≠ load.staged.length ∨ load.expected ≤ load.staged.length) :
    ownPlanStage index record s = refused .sequence load.staged.length s := by
  unfold ownPlanStage; simp only [h, if_pos hi]

theorem ownPlanStage_length {n : Nat} (h : s.pst.load = some load) (hi : index = load.staged.length)
    (he : load.staged.length < load.expected) (hn : recordLength (num8 record 0) = some n)
    (hne : n ≠ record.length) :
    ownPlanStage index record s = refused .badLength (record.length + 1) s := by
  unfold ownPlanStage
  simp only [h, hn]
  rw [if_neg (by omega), if_pos (by simpa using hne)]

theorem ownPlanStage_range {detail : Nat} (h : s.pst.load = some load)
    (hi : index = load.staged.length) (he : load.staged.length < load.expected)
    (hn : recordLength (num8 record 0) = none ∨ recordLength (num8 record 0) = some record.length)
    (hc : recordProblem record load.target = some detail) :
    ownPlanStage index record s = refused .outOfRange detail s := by
  unfold ownPlanStage
  simp only [h, hc]
  rw [if_neg (by omega), if_neg (by obtain hn | hn := hn <;> simp [hn])]

theorem ownPlanStage_staged (h : s.pst.load = some load) (hi : index = load.staged.length)
    (he : load.staged.length < load.expected)
    (hn : recordLength (num8 record 0) = some record.length)
    (hc : recordProblem record load.target = none) :
    ownPlanStage index record s =
      accepted [byteOf index, byteOf (load.expected - (load.staged.length + 1))]
        (s.withPst { s.pst with
          load := some { load with staged := load.staged ++ [recordOf record], idle := some 10000 } }) := by
  unfold ownPlanStage
  simp only [h, hc]
  rw [if_neg (by omega), if_neg (by simp [hn])]

end

/-- Settles O16: the checks of PLAN STAGE in order, and the record that is staged. -/
theorem planStageStagesTheRecord : Obligations.PlanStageStagesTheRecord := by
  constructor
  · intro tag index p load s hs hp hl hi he hfit
    obtain ⟨hback, hpass⟩ := recordChars_roundTrip hfit
    have hlen : recordLength (num8 (recordChars p) 0) = some (recordChars p).length := by
      rw [(recordChars_head p hfit.1).1, recordLength_chars]
    have hbounds := recordLength_cases hlen
    rw [planStage_answers hs hp (by omega) (by omega),
      ownPlanStage_staged (s := heard s) hl hi he hlen hpass, hback, answer_accepted, byteOf_self]
    rfl
  · intro tag index record s hs hp hlow hhigh r
    rw [planStage_answers hs hp hlow hhigh]
    refine ⟨fun hl => ?_, fun load hl => ⟨fun hi => ?_, fun hi he => ?_⟩⟩
    · rw [ownPlanStage_closed (s := heard s) hl, answer_refused]
    · rw [ownPlanStage_sequence (s := heard s) hl hi, answer_refused]
    · intro length
      have hlength : length = recordLength (num8 record 0) := by
        cases record <;> rfl
      rw [hlength, ← recordProblem_eq]
      refine ⟨fun n hn hne => ?_, fun hn hc => ?_, fun detail hn hc => ?_⟩
      · rw [ownPlanStage_length (s := heard s) hl hi he hn hne, answer_refused]
      · refine ⟨stageFits_recordOf hc, recordChars_recordOf hn ?_, ?_⟩
        · exact fun h4 => ((recordProblem_eq_none_iff record load.target).1 hc).2.2.2.2.2.2 h4 |>.1
        · rw [ownPlanStage_staged (s := heard s) hl hi he hn hc, answer_accepted, byteOf_self]
          rfl
      · rw [ownPlanStage_range (s := heard s) hl hi he hn hc, answer_refused]

/-! ## What PLAN STAGE can stage -/

@[simp] theorem answerRequest_pst (r : Request) (a : Answered) :
    (answerRequest r a).pst = a.state.pst := by
  unfold answerRequest clearReported; split <;> rfl

/-- The owner leaves the context's records or adds the record of characters that pass every check. -/
theorem ownPlanStage_load (index : Nat) (record : List Byte) {s : State} {load : LoadContext}
    (h : s.pst.load = some load) :
    (ownPlanStage index record s).state.pst = s.pst ∨
      recordProblem record load.target = none ∧
        ∃ l, (ownPlanStage index record s).state.pst.load = some l ∧
          l.staged = load.staged ++ [recordOf record] := by
  unfold ownPlanStage
  simp only [h]
  split
  · exact .inl rfl
  · split
    · exact .inl rfl
    · split
      next => exact .inl rfl
      next hpass => exact .inr ⟨hpass, _, rfl, rfl⟩

/-- A request of the kind PLAN STAGE is refused with nothing changed, or its owner answers it. -/
theorem decide_planStage (tag : Byte) (body : List Byte) (s : State) :
    (decideRequest ⟨.unit, 0x11, tag, body⟩ s).state = s ∨
      decideRequest ⟨.unit, 0x11, tag, body⟩ s = ownPlanStage (num8 body 0) body.tail s := by
  have hkind : reqKindOf (0x11 : Byte).toNat = some .planStage := rfl
  unfold decideRequest genericCheck
  simp only [hkind]
  split_ifs <;> simp [refused, ownerActs]

/-- A body that no frame can carry changes the link alone (R157). -/
theorem arriveRequest_overlong (a : FrameAddr) (kind tag : Byte) {body : List Byte} (s : State)
    (hb : 24 < body.length) : (arriveRequest a kind tag body s).pst = s.pst := by
  unfold arriveRequest abandonFrame
  rw [if_pos hb]
  split <;> rfl

/-- PLAN STAGE leaves the load context or adds one record that its checks have passed. -/
theorem planStage_load {tag index : Byte} {record : List Byte} {s t : State} {load : LoadContext}
    (hs : free s) (hl : s.pst.load = some load)
    (h : exec (.planStage tag index record) s = .next t) :
    t.pst = s.pst ∨ recordProblem record load.target = none ∧
      ∃ l, t.pst.load = some l ∧ l.staged = load.staged ++ [recordOf record] := by
  have hframe : requestFrame (.planStage tag index record) =
      some ⟨.unit, 0x11, tag, index :: record⟩ := rfl
  by_cases hb : (index :: record).length ≤ 24
  · rw [exec_request s hframe hb hs, Host.Outcome.next.injEq] at h
    subst h
    rw [answerRequest_pst]
    obtain hd | hd := decide_planStage tag (index :: record) (heard s)
    · rw [hd]; exact .inl rfl
    · rw [hd]; exact ownPlanStage_load (s := heard s) _ _ hl
  · rw [exec_eq_arrive s hframe, Host.Outcome.next.injEq] at h
    subst h
    exact .inl (arriveRequest_overlong _ _ _ _ (Nat.lt_of_not_le hb))

/-- Settles O17: a context with one more record has taken the record of characters that pass. -/
theorem stagedRecordsFitTheirChannel : Obligations.StagedRecordsFitTheirChannel := by
  rintro tag index record s t load p hs hl h ⟨l, hlt, hstaged⟩
  obtain hsame | ⟨hpass, l', hl', hadded⟩ := planStage_load hs hl h
  · rw [hsame, hl, Option.mem_some_iff] at hlt
    simp [← hlt] at hstaged
  · obtain rfl : l' = l := Option.some.inj (hl'.symm.trans hlt)
    obtain rfl : recordOf record = p := by simpa [hadded] using hstaged
    exact stageFits_recordOf hpass

end Sys2Proof.Proofs
end

section
/-! The end of an event for a channel with a level or a permit (R26, R38, R49), and the knobs (R103 to
R105). -/

namespace Sys2Proof.Proofs

open Sys2Proof Sys2Proof.Machine Sys2Proof.Claims

/-! ## A burner's record -/

theorem setBurner_setBurner (s : State) (n : Burner) (a b : BurnerRec) :
    (s.setBurner n a).setBurner n b = s.setBurner n b := by
  simp [State.setBurner, State.withBsv]

theorem left_setBurner (n : Burner) (b : BurnerRec) (s : State) :
    (s.setBurner n b).withBsv (left n (s.setBurner n b).bsv) = (s.withBsv (left n s.bsv)).setBurner n b :=
  rfl

/-- Leaving the queue, then the generator when it is owned, is Claims.left. -/
theorem releaseIfOwner_eq (n : Burner) (s : State) :
    releaseIfOwner n (s.withBsv { s.bsv with queue := s.bsv.queue.filter (fun m => decide (m ≠ n)) }) =
      s.withBsv (left n s.bsv) := by
  unfold releaseIfOwner releaseGenerator left
  by_cases ho : s.bsv.owner = some n <;> simp [ho]

/-- A burner that shuts leaves the queue and the generator, and rests in its new state. -/
theorem shutBurner_eq (n : Burner) (next : BurnerState) (s : State) :
    shutBurner n next s = (s.withBsv (left n s.bsv)).setBurner n (atRest (s.burner n) next) := by
  have hshut (q : State) (hq : q = s.withBsv { s.bsv with
      queue := s.bsv.queue.filter (fun m => decide (m ≠ n)) }) :
      shutBurner n next s =
        (releaseIfOwner n q).setBurner n (atRest ((releaseIfOwner n q).burner n) next) := by
    subst hq; rfl
  rw [hshut _ rfl, releaseIfOwner_eq]
  rfl

theorem endsAtWithdrawal_iff (b : BurnerState) :
    endsAtWithdrawal b = true ↔ b = .queued ∨ b = .igniting ∨ b = .burning ∨ b = .retryGap := by
  cases b <;> simp [endsAtWithdrawal]

theorem withdrawPermit_ends {n : Burner} {s : State} (cause : PlanEnd)
    (h : endsAtWithdrawal (s.burner n).state = true) :
    withdrawPermit n cause s = raise (burnerNotice n 3 (planEndCode cause))
      ((s.withBsv (left n s.bsv)).setBurner n
        { atRest (s.burner n) .waitClose with permit := false }) := by
  unfold withdrawPermit
  simp only [State.setBurner_burner_self, h, if_true, shutBurner_eq, left_setBurner, setBurner_setBurner]
  rfl

theorem withdrawPermit_keeps {n : Burner} {s : State} (cause : PlanEnd)
    (h : ¬ endsAtWithdrawal (s.burner n).state = true) :
    withdrawPermit n cause s = s.setBurner n { s.burner n with permit := false } := by
  unfold withdrawPermit
  simp only [State.setBurner_burner_self, if_neg h]

/-! ## Handing on -/

theorem permitOf_eq (st : ChannelState) :
    permitOf st = (decide (st ≠ .done) && decide (st ≠ .halted)) := by cases st <;> rfl

section

variable {c : Channel} {n : Burner} {s : State}

theorem syncPermit_same (h : (s.burner n).permit = permitOf (s.chan c).state) : syncPermit c n s = s := by
  unfold syncPermit; rw [h]; cases permitOf (s.chan c).state <;> rfl

theorem syncPermit_returns (h : (s.burner n).permit = false)
    (hg : permitOf (s.chan c).state = true) :
    syncPermit c n s = s.setBurner n { s.burner n with permit := true } := by
  unfold syncPermit; rw [h, hg]; rfl

theorem syncPermit_withdraws (h : (s.burner n).permit = true)
    (hg : permitOf (s.chan c).state = false) :
    syncPermit c n s = withdrawPermit n (s.chan c).planEnd s := by
  unfold syncPermit; rw [h, hg]

end

theorem slotsOfLevel_eq (n : Nat) : slotsOfLevel n = (32 * n + 6) / 12 := rfl

/-- Settles O34: the level by sync_of_hob, the permit by sync_of_burner. -/
theorem eventsHandOnLevelsAndPermits : Obligations.EventsHandOnLevelsAndPermits := by
  constructor
  · intro c h s hc r level
    have hlevel : channelLevel r = level := by
      dsimp only [level]
      unfold channelLevel stageLevel ChannelRec.current
      cases r.state <;> cases r.plan[r.stageIndex]? <;> rfl
    rw [sync_of_hob hc, ← hlevel]
    rfl
  · intro c n s hc b given
    have hgiven : permitOf (s.chan c).state = given := permitOf_eq _
    rw [sync_of_burner hc]
    refine ⟨fun h => syncPermit_same (h.trans hgiven.symm), fun hp hg =>
      syncPermit_returns hp (hgiven.trans hg), fun hp hg => ?_⟩
    rw [syncPermit_withdraws hp (hgiven.trans hg)]
    refine ⟨fun hst => withdrawPermit_ends _ ((endsAtWithdrawal_iff _).2 hst), fun hst =>
      withdrawPermit_keeps _ ?_⟩
    have hrest : b.state = .off ∨ b.state = .lockout ∨ b.state = .waitClose := hst
    rw [endsAtWithdrawal_iff]
    obtain h | h | h := hrest <;> simp [b] at h <;> simp [h]

/-! ## The knobs -/

theorem withKnob_eq (n : Burner) (level : KnobPos) (s : State) :
    withKnob n level s = s.withPins { s.pins with knob := s.pins.knob.set n level } := rfl

theorem openKnob_waits {n : Burner} {s : State} (h : (s.burner n).permit = false) :
    openKnob n s = s.setBurner n
      { s.burner n with knob := .opened, debounce := none, state := .waitClose } := by
  unfold openKnob
  simp [h, setBurner_setBurner]

/-- A burner whose record has just been set joins the queue. -/
theorem joinQueue_setBurner (n : Burner) (b : BurnerRec) (s : State) :
    joinQueue n (s.setBurner n b) =
      grantCheck ((s.withBsv { s.bsv with queue := s.bsv.queue ++ [n] }).setBurner n
        { b with state := .queued, gap := none }) := by
  have hjoin (t : State) (ht : t = s.withBsv { s.bsv with queue := s.bsv.queue ++ [n] }) :
      joinQueue n (s.setBurner n b) = grantCheck ((t.setBurner n b).setBurner n
        { (s.setBurner n b).burner n with state := .queued, gap := none }) := by
    subst ht; rfl
  rw [hjoin _ rfl, setBurner_setBurner, State.setBurner_burner_self]

theorem openKnob_queues {n : Burner} {s : State} (h : (s.burner n).permit = true) :
    openKnob n s = grantCheck ((s.withBsv { s.bsv with queue := s.bsv.queue ++ [n] }).setBurner n
      { s.burner n with knob := .opened, debounce := none, state := .queued, gap := none }) := by
  unfold openKnob
  simp only [State.setBurner_burner_self, h, if_true]
  rw [joinQueue_setBurner]

theorem closeKnob_eq (n : Burner) (s : State) :
    closeKnob n s = (s.withBsv (left n s.bsv)).setBurner n
      { atRest (s.burner n) .off with knob := .closed, debounce := none, attempts := 0, losses := 0 } := by
  unfold closeKnob
  simp only [shutBurner_eq, State.setBurner_burner_self, setBurner_setBurner]

theorem reportClosing_eq (c : Channel) (s : State) :
    reportClosing c s = if (s.chan c).state = .done then sync c (emptied c s) else s := rfl

section

variable {n : Burner} {s : State}

theorem execKnobInputChange_moves {level : KnobPos} (h : level ≠ s.pins.knob.get n) :
    execKnobInputChange n level s = .next
      (if s.out.locked then withKnob n level s
      else (withKnob n level s).setBurner n
        { s.burner n with debounce := if level = (s.burner n).knob then none else some 0 }) := by
  rw [execKnobInputChange, if_neg h]; rfl

theorem execKnobOpened_ignored (h : s.out.locked = true ∨ (s.burner n).knob = .opened) :
    execKnobOpened n s = .next s := by rw [execKnobOpened, if_pos h]

theorem execKnobOpened_acts (hl : s.out.locked = false) (hk : (s.burner n).knob = .closed) :
    execKnobOpened n s = .next (openKnob n (withKnob n .opened s)) := by
  rw [execKnobOpened, if_neg (by simp [hl, hk])]

theorem execKnobClosed_ignored (h : s.out.locked = true ∨ (s.burner n).knob = .closed) :
    execKnobClosed n s = .next s := by rw [execKnobClosed, if_pos h]

theorem execKnobClosed_acts (hl : s.out.locked = false) (hk : (s.burner n).knob = .opened) :
    execKnobClosed n s =
      .next (reportClosing (burnerChannel n) (closeKnob n (withKnob n .closed s))) := by
  rw [execKnobClosed, if_neg (by simp [hl, hk])]

end

/-- Settles O45: the input line, the opening knob and the closing knob. -/
theorem knobsAreFollowed : Obligations.KnobsAreFollowed := by
  intro n s b pin
  have hinput (level : KnobPos) :
      exec (.knobInputChange n level) s = execKnobInputChange n level s := rfl
  have hopened : exec (.knobOpened n) s = execKnobOpened n s := rfl
  have hclosed : exec (.knobClosed n) s = execKnobClosed n s := rfl
  simp only [hinput]
  rw [hopened, hclosed]
  refine ⟨fun level => ⟨fun h => ?_, fun h => ⟨fun hl => ?_, fun hl => ?_⟩⟩, fun hl =>
    ⟨execKnobOpened_ignored (.inl hl), execKnobClosed_ignored (.inl hl)⟩,
    fun hl hk => ⟨execKnobClosed_ignored (.inr hk), fun hp => ?_, fun hp => ?_⟩,
    fun hl hk => ⟨execKnobOpened_ignored (.inr hk), ?_⟩⟩
  · rw [execKnobInputChange, if_pos h]
  · rw [execKnobInputChange_moves h, if_pos hl]; rfl
  · rw [execKnobInputChange_moves h, if_neg (by simp [hl])]; rfl
  · rw [execKnobOpened_acts hl hk, openKnob_waits (s := withKnob n .opened s) hp]; rfl
  · rw [execKnobOpened_acts hl hk, openKnob_queues (s := withKnob n .opened s) hp]; rfl
  · rw [execKnobClosed_acts hl hk, closeKnob_eq, reportClosing_eq]; rfl

end Sys2Proof.Proofs
end

section
/-! The part's own clock (log 4, log 5): which events are due, and the step on an empty queue. -/

namespace Sys2Proof.Proofs

open Sys2Proof Sys2Proof.Machine Sys2Proof.Claims

/-! ## The events that are due, block by block -/

theorem mem_dueWhen {d : Bool} {c e : Instr} : c ∈ dueWhen d e ↔ d = true ∧ c = e := by
  cases d <;> simp [dueWhen]

/-- A timer that counts up has reached a bound. -/
theorem any_le_iff (t : Option Nat) (m : Nat) :
    t.any (fun n => decide (m ≤ n)) = true ↔ hasRun t m := by
  cases t <;> simp [hasRun]

theorem mem_dueLink (s : State) (c : Instr) :
    c ∈ dueLink s ↔
      (hasRun s.lnk.gap 20 ∧ c = .gapTimeout) ∨
      (s.lnk.transmitter = .delay 0 ∧ c = .replyStart) ∨
      (s.lnk.transmitter = .sending 0 ∧ c = .replySent) ∨
      (s.lnk.supervision = some 0 ∧ c = .linkSupervisionExpiry) ∨
      ((∃ l, s.pst.load = some l ∧ l.idle = some 0) ∧ c = .loadIdleTimeout) := by
  have hload : s.pst.load.any (fun l => l.idle == some 0) = true ↔
      ∃ l, s.pst.load = some l ∧ l.idle = some 0 := by
    cases s.pst.load <;> simp
  simp only [dueLink, List.mem_append, mem_dueWhen, any_le_iff, hload, beq_iff_eq, or_assoc]
  rcases ht : s.lnk.transmitter with _ | (_ | n) | (_ | n) <;> simp

theorem mem_dueChannel (s : State) (d : Channel) (c : Instr) :
    c ∈ dueChannel s d ↔
      (((s.chan d).state = .running ∧ hasRun (s.chan d).secondTimer 1000) ∧ c = .channelSecond d) ∨
      ((∃ t, (s.chan d).pauseTimer = some t ∧ 1000 ≤ t.phase) ∧ c = .pauseTimerSecond d) := by
  have hpause : (s.chan d).pauseTimer.any (fun t => decide (1000 ≤ t.phase)) = true ↔
      ∃ t, (s.chan d).pauseTimer = some t ∧ 1000 ≤ t.phase := by
    cases (s.chan d).pauseTimer <;> simp
  simp only [dueChannel, List.mem_append, mem_dueWhen, hpause, Bool.and_eq_true, any_le_iff,
    decide_eq_true_eq]

theorem mem_dueFrame (s : State) (c : Instr) :
    c ∈ dueFrame s ↔
      ((s.pfs.slotTimer = some 0 ∧ s.pfs.sched = .running ∧ s.pfs.slot.val < 31) ∧ c = .slotBoundary) ∨
      ((s.pfs.slotTimer = some 0 ∧
        (s.pfs.sched = .starting ∨ s.pfs.sched = .running ∧ s.pfs.slot.val = 31)) ∧
        c = .frameBoundary) := by
  have hslot : s.pfs.slot = 31 ↔ s.pfs.slot.val = 31 := Fin.ext_iff
  have hlt : s.pfs.slot.val ≠ 31 ↔ s.pfs.slot.val < 31 := by omega
  simp only [dueFrame, mem_dueWhen, Bool.and_eq_true, beq_iff_eq, decide_eq_true_eq, ne_eq, hslot]
  cases s.pfs.sched
  · simp
  · simp
  · by_cases h31 : s.pfs.slot.val = 31
    · simp [h31]
    · simp [h31, hlt.1 h31]

theorem mem_dueOven (s : State) (c : Instr) :
    c ∈ dueOven s ↔
      (s.ovr.probeTimer = some 0 ∧ c = .probeReading s.pins.prb) ∨
      ((hasRun s.ovr.doorDebounce 50 ∧ s.pins.door = .opened) ∧ c = .doorOpened) ∨
      ((hasRun s.ovr.doorDebounce 50 ∧ s.pins.door = .shut) ∧ c = .doorClosed) := by
  simp only [dueOven, List.mem_append, mem_dueWhen, any_le_iff, beq_iff_eq]
  cases s.pins.door <;> simp

theorem lossCounts_iff (n : Burner) (s : State) :
    lossCounts n s = true ↔ (s.burner n).state = .burning ∧
      (∃ run, (s.burner n).flameLoss = .running run) ∧ s.pins.flame.get n = false := by
  unfold lossCounts
  cases (s.burner n).state <;> cases (s.burner n).flameLoss <;> simp

theorem mem_dueBurner (s : State) (n : Burner) (c : Instr) :
    let b := s.burner n
    c ∈ dueBurner s n ↔
      ((hasRun b.debounce 50 ∧ s.pins.knob.get n = .opened) ∧ c = .knobOpened n) ∨
      ((hasRun b.debounce 50 ∧ s.pins.knob.get n = .closed) ∧ c = .knobClosed n) ∨
      ((b.state = .igniting ∧ hasRun b.proving 1000) ∧ c = .flameProven n) ∨
      ((b.state = .igniting ∧ b.attemptTimer = some 0) ∧ c = .attemptFailed n) ∨
      ((b.state = .retryGap ∧ b.gap = some 0) ∧ c = .retryGapExpiry n) ∨
      ((b.state = .burning ∧ s.pins.flame.get n = false ∧
        ∃ run, b.flameLoss = .running run ∧ 1000 ≤ run) ∧ c = .flameLost n) := by
  intro b
  have hloss : lossCounts n s = true ↔ b.state = .burning ∧
      (∃ run, b.flameLoss = .running run) ∧ s.pins.flame.get n = false := lossCounts_iff n s
  simp only [dueBurner, List.mem_append, mem_dueWhen, any_le_iff, Bool.and_eq_true, beq_iff_eq,
    decide_eq_true_eq, or_assoc, hloss]
  cases s.pins.knob.get n <;> cases b.flameLoss <;> simp [b, and_assoc, and_left_comm]

theorem mem_dueGenerator (s : State) (c : Instr) :
    c ∈ dueGenerator s ↔
      (s.bsv.rest = some 0 ∧ c = .restTimerExpiry) ∨ (s.bsv.hold = .tail 0 ∧ c = .holdTailEnd) := by
  simp only [dueGenerator, List.mem_append, mem_dueWhen, beq_iff_eq]

theorem runDue_iff (s : State) (h : Heater) : runDue s h = true ↔ runFull s h := by
  simp [runDue, runFull]

theorem mem_dueOutputs (s : State) (c : Instr) :
    c ∈ dueOutputs s ↔
      (s.out.proving = some 0 ∧ c = .contactorProvingExpiry) ∨
      (s.ntq.spacing = some 0 ∧ c = .spacingTimerExpiry) := by
  simp only [dueOutputs, List.mem_append, mem_dueWhen, beq_iff_eq]

/-- The further heaters of a moment, in the order of their codes (R137). -/
def alsoDue (s : State) (h : Heater) : List Heater :=
  allHeaters.filter (fun g => decide (g ≠ h) && runDue s g)

theorem mem_alsoDue (s : State) (h g : Heater) : g ∈ alsoDue s h ↔ g ≠ h ∧ runFull s g := by
  have hall : g ∈ allHeaters := by cases g <;> decide
  simp [alsoDue, hall, runDue_iff]

theorem alsoDue_pairwise (s : State) (h : Heater) :
    (alsoDue s h).Pairwise (fun g k => heaterCode g < heaterCode k) :=
  List.Pairwise.filter _ (by decide)

/-- A list of the same heaters in the order of their codes is that list. -/
theorem eq_alsoDue {s : State} {h : Heater} {also : List Heater}
    (hmem : ∀ g, g ∈ also ↔ g ≠ h ∧ runFull s g)
    (hsorted : also.Pairwise (fun g k => heaterCode g < heaterCode k)) : also = alsoDue s h := by
  let r : Heater → Heater → Prop := fun g k => heaterCode g < heaterCode k
  have : Std.Irrefl r := ⟨fun _ => Nat.lt_irrefl _⟩
  have : Std.Antisymm r := ⟨fun _ _ h h' => absurd h (Nat.lt_asymm h')⟩
  exact List.Pairwise.eq_of_mem_iff (r := r) hsorted (alsoDue_pairwise s h)
    fun g => (hmem g).trans (mem_alsoDue s h g).symm

theorem mem_dueHeater (s : State) (h : Heater) (c : Instr) :
    c ∈ dueHeater s h ↔
      ((s.heaterOut h).check = .settling 0 ∧ c = .settlingEnd h) ∨
      (runFull s h ∧ c = .persistenceRunExpiry h (alsoDue s h)) := by
  simp only [dueHeater, List.mem_append, mem_dueWhen, beq_iff_eq, runDue_iff, alsoDue]

/-- The events that are due are those whose timer has run its time. -/
theorem mem_dueEvents (s : State) (c : Instr) : c ∈ dueEvents s ↔ isDue s c := by
  have hchan (d : Channel) : d ∈ allChannels := by cases d <;> decide
  have hburner (n : Burner) : n ∈ allBurners := by cases n <;> decide
  have hheater (h : Heater) : h ∈ allHeaters := by cases h <;> decide
  simp only [dueEvents, List.mem_append, List.mem_flatMap, mem_dueLink, mem_dueChannel, mem_dueFrame,
    mem_dueOven, mem_dueBurner, mem_dueGenerator, mem_dueHeater, mem_dueOutputs, hchan, hburner,
    hheater, true_and]
  cases c <;> simp [isDue]
  case persistenceRunExpiry h also =>
    intro _
    constructor
    · rintro rfl
      exact ⟨mem_alsoDue s h, alsoDue_pairwise s h⟩
    · rintro ⟨hmem, hsorted⟩
      exact eq_alsoDue hmem hsorted

/-! ## One millisecond -/

theorem countUp_eq : countUp = Option.map (fun n => n + 1) := by
  funext t; cases t <;> rfl

theorem countDown_eq : countDown = Option.map (fun n => n - 1) := by
  funext t; cases t <;> rfl

/-- A flame-loss timer that runs counts while its burner burns and shows no flame (R114). -/
theorem flameLoss_tick (n : Burner) (s : State) :
    (s.burner n).flameLoss.tick (lossCounts n s) = match (s.burner n).flameLoss with
      | .running run => .running
        (if (s.burner n).state = .burning ∧ s.pins.flame.get n = false then run + 1 else run)
      | .stopped => .stopped
      | .frozen run => .frozen run := by
  unfold FlameLoss.tick lossCounts
  cases hf : (s.burner n).flameLoss <;> cases (s.burner n).state <;> cases s.pins.flame.get n <;>
    simp

theorem burnerTick_eq (n : Burner) (s : State) :
    (s.burner n).tick (lossCounts n s) =
      { s.burner n with
        debounce := (s.burner n).debounce.map (fun n => n + 1)
        attemptTimer := (s.burner n).attemptTimer.map (fun n => n - 1)
        proving := (s.burner n).proving.map (fun n => n + 1)
        gap := (s.burner n).gap.map (fun n => n - 1)
        flameLoss := match (s.burner n).flameLoss with
          | .running run => .running
            (if (s.burner n).state = .burning ∧ s.pins.flame.get n = false then run + 1 else run)
          | .stopped => .stopped
          | .frozen run => .frozen run } := by
  unfold BurnerRec.tick
  rw [flameLoss_tick, countUp_eq, countDown_eq]

theorem advance_eq (s : State) : advance s = oneMillisecond s := by
  have hdis (h : Heater) : disagrees (tickBurners (tickOven (tickFrame (tickChannels (tickLoad
      (tickLink s)))))) h = disagrees s h := rfl
  unfold advance tickNotices tickOutputs
  simp only [hdis]
  unfold tickBurners
  simp only [tickOven, tickFrame, tickChannels, tickLoad, tickLink, countUp_eq, countDown_eq]
  unfold oneMillisecond
  dsimp only [State.withNtq, State.withOut, State.withBsv, State.withOvr, State.withPfs,
    State.withPlr, State.withPst, State.withLnk]
  simp only [State.mk.injEq, true_and, and_true]
  refine ⟨?link, ?channels, ?burners, ?outputs⟩
  case link => rfl
  case channels => simp only [ChannelRec.tick, countUp_eq]
  case burners =>
    congr 1
    refine PerBurner.ext_get fun n => ?_
    rw [PerBurner.get_map, PerBurner.get_map]
    exact burnerTick_eq n s
  case outputs => rfl

/-- With events due one of them comes to wait. -/
theorem idleStep_due {s : State} (h : dueEvents s ≠ []) :
    ∃ c ∈ dueEvents s, ∃ k, idleStep s = (s.withPending [c]).withDrawn k := by
  unfold idleStep
  split
  next hnone => exact absurd hnone h
  next c hone => exact ⟨c, by simp [hone], s.drawn, rfl⟩
  next c rest _ hmany =>
    have hlt : Config.freeOrder s.drawn % (c :: rest).length < (c :: rest).length :=
      Nat.mod_lt _ (by simp)
    refine ⟨_, ?_, _, rfl⟩
    rw [hmany, List.getD_eq_getElem _ _ hlt]
    exact List.getElem_mem hlt

/-- Settles O3: the due events by mem_dueEvents, the millisecond by advance_eq. -/
theorem emptyQueueRunsTheClock : Obligations.EmptyQueueRunsTheClock := by
  refine fun s => ⟨mem_dueEvents s, fun hempty => ?_⟩
  have hstep : step s = .next (idleStep s) := by unfold step; rw [hempty]
  rw [hstep]
  refine ⟨fun hnone => ?_, fun hsome => ?_⟩
  · have hidle : idleStep s = advance s := by unfold idleStep; rw [hnone]
    rw [hidle, advance_eq]
  · obtain ⟨c, hc, k, hk⟩ := idleStep_due hsome
    exact ⟨c, hc, k, by rw [hk]⟩

end Sys2Proof.Proofs
end

section
/-! SUPPORT. The dropping of demands (R16, R21, R24, R62, R68, R86): which commands go off, what OUT and the
cooling fan take from that, and what stays. -/

namespace Sys2Proof.Proofs

open Sys2Proof Sys2Proof.Machine Sys2Proof.Claims

/-! ## The cooling fan follows commands that go off -/

theorem ovenOrGrillOn_iff (s : State) :
    ovenOrGrillOn s = true ↔ ∃ h, feedsCoolingFan h = true ∧ (s.heater h).relay = true := by
  constructor
  · intro h
    simp only [ovenOrGrillOn, Bool.or_eq_true] at h
    obtain ((h | h) | h) | h := h
    · exact ⟨.htop, rfl, h⟩
    · exact ⟨.hbase, rfl, h⟩
    · exact ⟨.hring, rfl, h⟩
    · exact ⟨.hgrill, rfl, h⟩
  · rintro ⟨h, hf, hr⟩
    cases h <;> simp_all [ovenOrGrillOn, feedsCoolingFan]

theorem ovenOrGrillOn_congr {s t : State}
    (h : ∀ g, feedsCoolingFan g = true → (t.heater g).relay = (s.heater g).relay) :
    ovenOrGrillOn t = ovenOrGrillOn s := by
  simp only [ovenOrGrillOn, h .htop rfl, h .hbase rfl, h .hring rfl, h .hgrill rfl]

/-- A fan that is on stays on from 50 degrees (R97). -/
theorem coolingFanValue_on (anyOn : Bool) (temp : Option Nat) :
    coolingFanValue anyOn temp true = (anyOn || temp.any (fun f => decide (50 ≤ f))) := by
  cases anyOn
  · cases temp with
    | none => rfl
    | some t =>
      by_cases h60 : 60 ≤ t
      · simp [coolingFanValue, h60, show 50 ≤ t by omega]
      · by_cases h50 : 50 ≤ t
        · simp [coolingFanValue, h60, h50]
        · simp [coolingFanValue, h60, h50, Nat.lt_of_not_le h50]
  · rfl

/-- From s to t relay commands only go off, and the cooling fan follows those that do. -/
structure CommandsFall (s t : State) : Prop where
  off : ∀ h, (t.heater h).relay = true → (s.heater h).relay = true
  fan : coolingFollows s t
  buffer : t.ovr.buffer = s.ovr.buffer

namespace CommandsFall

theorem tempF {s t : State} (h : CommandsFall s t) : t.tempF = s.tempF := by
  unfold State.tempF; rw [h.buffer]

theorem of_same {s t : State} (hh : ∀ h, (t.heater h).relay = (s.heater h).relay)
    (hf : t.ovr.coolingFan = s.ovr.coolingFan) (hj : t.ovr.fanJustOff = s.ovr.fanJustOff)
    (hb : t.ovr.buffer = s.ovr.buffer) : CommandsFall s t where
  off := fun h hr => hh h ▸ hr
  fan := ⟨fun _ => ⟨hf, hj⟩, fun ⟨h, _, hne⟩ => absurd (hh h) hne⟩
  buffer := hb

theorem refl (s : State) : CommandsFall s s := of_same (fun _ => rfl) rfl rfl rfl

/-- Between two steps a fan that has gone off has none of its commands on, so the second step cannot
change one. -/
theorem trans {s t u : State} (h1 : CommandsFall s t) (h2 : CommandsFall t u) : CommandsFall s u where
  off := fun h hr => h1.off h (h2.off h hr)
  buffer := h2.buffer.trans h1.buffer
  fan := by
    obtain ⟨same1, changed1⟩ := h1.fan
    obtain ⟨same2, changed2⟩ := h2.fan
    rw [h1.tempF] at changed2
    constructor
    · intro hsu
      have hst (h : Heater) (hf : feedsCoolingFan h = true) :
          (t.heater h).relay = (s.heater h).relay := by
        have hoff1 := h1.off h
        have hoff2 := h2.off h
        rw [hsu h hf] at hoff2
        cases ht : (t.heater h).relay <;> cases hs : (s.heater h).relay <;> simp_all
      have htu (h : Heater) (hf : feedsCoolingFan h = true) :
          (u.heater h).relay = (t.heater h).relay := (hsu h hf).trans (hst h hf).symm
      exact ⟨(same2 htu).1.trans (same1 hst).1, (same2 htu).2.trans (same1 hst).2⟩
    · rintro ⟨h, hf, hne⟩ hon
      by_cases hst : ∀ g, feedsCoolingFan g = true → (t.heater g).relay = (s.heater g).relay
      · exact changed2 ⟨h, hf, fun e => hne (e.trans (hst h hf))⟩ ((same1 hst).1.trans hon)
      · push Not at hst
        obtain ⟨hfan, hjust⟩ := changed1 hst hon
        by_cases htu : ∀ g, feedsCoolingFan g = true → (u.heater g).relay = (t.heater g).relay
        · rw [(same2 htu).1, (same2 htu).2, ovenOrGrillOn_congr htu]
          exact ⟨hfan, hjust⟩
        · push Not at htu
          obtain ⟨g, hg, hgne⟩ := htu
          have hgon : (t.heater g).relay = true := by
            have := h2.off g
            cases ht : (t.heater g).relay <;> cases hu : (u.heater g).relay <;> simp_all
          have hton : ovenOrGrillOn t = true := (ovenOrGrillOn_iff t).2 ⟨g, hg, hgon⟩
          exact changed2 ⟨g, hg, hgne⟩ (by rw [hfan, hton, Bool.true_or])

theorem foldl {α : Type} {f : State → α → State} (hf : ∀ s a, CommandsFall s (f s a)) (l : List α)
    (s : State) : CommandsFall s (l.foldl f s) := by
  induction l generalizing s with
  | nil => exact refl s
  | cons a l ih => exact (hf s a).trans (ih _)

end CommandsFall

theorem relayOff_fall (h : Heater) (s : State) : CommandsFall s (relayOff h s) := by
  have hrelay (g : Heater) : ((relayOff h s).heater g).relay =
      if g = h then false else (s.heater g).relay := by
    rw [relayOff_heater]; split <;> rfl
  cases hr : (s.heater h).relay
  · have hsame : relayOff h s = s := by unfold relayOff; simp [hr]
    rw [hsame]; exact .refl s
  · have hoff (g : Heater) (hg : ((relayOff h s).heater g).relay = true) :
        (s.heater g).relay = true := by
      rw [hrelay] at hg; split at hg
      · contradiction
      · exact hg
    by_cases hf : feedsCoolingFan h = true
    · have heq : relayOff h s = evalCoolingFan (handCommand h false s) := by
        unfold relayOff; simp [hr, hf]
      refine ⟨hoff, ⟨fun hsame => ?_, fun _ hon => ?_⟩, ?_⟩
      · have := hsame h hf
        simp [hrelay, hr] at this
      · rw [heq]
        have hany : ovenOrGrillOn (evalCoolingFan (handCommand h false s)) =
            ovenOrGrillOn (handCommand h false s) := rfl
        have htemp : (handCommand h false s).tempF = s.tempF := by simp [State.tempF]
        rw [hany]
        simp [evalCoolingFan, hon, coolingFanValue_on, htemp]
      · rw [heq]; simp [evalCoolingFan]
    · have heq : relayOff h s = handCommand h false s := by
        unfold relayOff; simp [hr, hf]
      refine ⟨hoff, ⟨fun _ => by rw [heq]; simp, ?_⟩, by rw [heq]; simp⟩
      rintro ⟨g, hg, hne⟩
      rw [hrelay, if_neg (by rintro rfl; exact hf hg)] at hne
      exact absurd rfl hne

/-! ## What a dropped demand leaves -/

/-- From s to t demands are dropped: OUT is handed each command that goes off, and nothing else of OUT, of
the scheduler or of the configuration changes but the heaters' records. -/
structure Drops (s t : State) : Prop extends CommandsFall s t where
  cfg : t.cfg = s.cfg
  cursor : t.plr.cursor = s.plr.cursor
  pfs : t.pfs = { s.pfs with heaters := t.pfs.heaters }
  out : t.out = { s.out with heaters := t.out.heaters }
  outs : ∀ h, t.heaterOut h =
    handed (s.install h).installed (s.heater h).relay (t.heater h).relay (s.heaterOut h)

theorem handed_same (i b : Bool) (r : HeaterOut) : handed i b b r = r := if_pos rfl

/-- A command that only goes off is handed once. -/
theorem handed_handed (i : Bool) {a b c : Bool} (hba : b = true → a = true) (hcb : c = true → b = true)
    (r : HeaterOut) : handed i b c (handed i a b r) = handed i a c r := by
  cases a <;> cases b <;> cases c <;> simp_all [handed_same]

namespace Drops

section

variable {s t : State}

theorem install (d : Drops s t) (h : Heater) : t.install h = s.install h := by
  unfold State.install; rw [d.cfg]

theorem sched (d : Drops s t) : t.pfs.sched = s.pfs.sched := by rw [d.pfs]

theorem slot (d : Drops s t) : t.pfs.slot = s.pfs.slot := by rw [d.pfs]

end

theorem refl (s : State) : Drops s s where
  toCommandsFall := .refl s
  cfg := rfl
  cursor := rfl
  pfs := rfl
  out := rfl
  outs := fun _ => (handed_same _ _ _).symm

theorem trans {s t u : State} (h1 : Drops s t) (h2 : Drops t u) : Drops s u where
  toCommandsFall := h1.toCommandsFall.trans h2.toCommandsFall
  cfg := h2.cfg.trans h1.cfg
  cursor := h2.cursor.trans h1.cursor
  pfs := by rw [h2.pfs, h1.pfs]
  out := by rw [h2.out, h1.out]
  outs := fun h => by
    rw [h2.outs, h1.outs, h1.install]
    exact handed_handed _ (h1.off h) (h2.off h) _

/-- The second step first, so that it names the state between. -/
theorem after {s t u : State} (h2 : Drops t u) (h1 : Drops s t) : Drops s u := h1.trans h2

/-- A step that leaves the scheduler, OUT and the cooling fan. -/
theorem of_same {s t : State} (hc : t.cfg = s.cfg) (hl : t.plr.cursor = s.plr.cursor)
    (hp : t.pfs = s.pfs) (ho : t.out = s.out) (hf : t.ovr.coolingFan = s.ovr.coolingFan)
    (hj : t.ovr.fanJustOff = s.ovr.fanJustOff) (hb : t.ovr.buffer = s.ovr.buffer) : Drops s t where
  toCommandsFall := .of_same (fun h => by unfold State.heater; rw [hp]) hf hj hb
  cfg := hc
  cursor := hl
  pfs := by rw [hp]
  out := by rw [ho]
  outs := fun h => by
    have hr : (t.heater h).relay = (s.heater h).relay := by unfold State.heater; rw [hp]
    rw [hr, handed_same]; unfold State.heaterOut; rw [ho]

/-- A step that writes one heater's record and keeps its command. -/
theorem setHeater {s : State} (h : Heater) {r : HeaterFrame} (hr : r.relay = (s.heater h).relay) :
    Drops s (s.setHeater h r) where
  toCommandsFall := .of_same (fun g => by
    rw [State.setHeater_heater]; split
    next hg => rw [hg, hr]
    next => rfl) rfl rfl rfl
  cfg := rfl
  cursor := rfl
  pfs := rfl
  out := rfl
  outs := fun g => by
    have hsame : ((s.setHeater h r).heater g).relay = (s.heater g).relay := by
      rw [State.setHeater_heater]; split
      next hg => rw [hg, hr]
      next => rfl
    rw [hsame, handed_same]; rfl

theorem foldl {α : Type} {f : State → α → State} (hf : ∀ s a, Drops s (f s a)) (l : List α)
    (s : State) : Drops s (l.foldl f s) := by
  induction l generalizing s with
  | nil => exact refl s
  | cons a l ih => exact (hf s a).trans (ih _)

end Drops

theorem settle_out (h : Heater) (s : State) :
    (settle h s).out = { s.out with heaters := (settle h s).out.heaters } := by
  unfold settle; split <;> rfl

theorem handCommand_out (h : Heater) (on : Bool) (s : State) :
    (handCommand h on s).out = { s.out with heaters := (handCommand h on s).out.heaters } :=
  settle_out h _

theorem handCommand_pfs (h : Heater) (on : Bool) (s : State) :
    (handCommand h on s).pfs = { s.pfs with heaters := (handCommand h on s).pfs.heaters } := by
  simp only [handCommand, settle_frame]
  rfl

theorem relayOff_drops (h : Heater) (s : State) : Drops s (relayOff h s) where
  toCommandsFall := relayOff_fall h s
  cfg := by simp
  cursor := by simp
  pfs := by
    unfold relayOff; dsimp only; split
    · split <;> exact handCommand_pfs h false s
    · rfl
  out := by
    unfold relayOff; dsimp only; split
    · split <;> exact handCommand_out h false s
    · rfl
  outs := fun g => by
    rw [relayOff_heaterOut, relayOff_heater]
    split
    next hg => subst hg; rfl
    next => rw [handed_same]

theorem dropHeater_drops (h : Heater) (s : State) : Drops s (dropHeater h s) := by
  unfold dropHeater
  dsimp only
  split
  · exact (relayOff_drops h _).after (.setHeater h rfl)
  · exact Drops.setHeater h rfl

/-- A demand of 0 is handed. -/
theorem demandZero_drops (h : Heater) (s : State) : Drops s (demandChange h 0 s) := by
  unfold demandChange
  dsimp only
  split
  · exact .refl s
  · split
    · exact .refl s
    · exact .setHeater h rfl
    · split
      · exact .refl s
      · rw [if_pos rfl]; exact (dropHeater_drops h _).after (.setHeater h rfl)

theorem holdHeater_drops (h : Heater) (cause : HoldCause) (s : State) : Drops s (holdHeater h cause s) := by
  unfold holdHeater
  dsimp only
  split
  · exact .refl s
  · split
    · exact (dropHeater_drops h _).after (.setHeater h rfl)
    · exact .setHeater h rfl

theorem withOvr_drops {s : State} {x : Ovr} (hf : x.coolingFan = s.ovr.coolingFan)
    (hj : x.fanJustOff = s.ovr.fanJustOff) (hb : x.buffer = s.ovr.buffer) : Drops s (s.withOvr x) :=
  .of_same rfl rfl rfl rfl hf hj hb

theorem setChan_drops (s : State) (c : Channel) (r : ChannelRec) : Drops s (s.setChan c r) :=
  .of_same rfl rfl rfl rfl rfl rfl rfl

theorem handZero_drops (o : OvenHeater) (s : State) : Drops s (handDemand o 0 s) := by
  unfold handDemand
  split
  · exact .refl s
  · exact (demandZero_drops _ _).after (withOvr_drops rfl rfl rfl)

end Sys2Proof.Proofs
end

section
/-! SUPPORT. The end of an event on channels that do not run (R49, R62, R86): what is dropped, and what OVR
keeps. -/

namespace Sys2Proof.Proofs

open Sys2Proof Sys2Proof.Machine Sys2Proof.Claims

/-! ## OVR but for the cooling fan -/

/-- OVR's record without the cooling fan and its mark. -/
def fanless (o : Ovr) : Ovr := { o with coolingFan := false, fanJustOff := false }

/-- OVR's record without what a handed demand writes. -/
def unhanded (o : Ovr) : Ovr := { fanless o with handed := PerOven.const 0 }

theorem unhanded_of_fanless {a b : Ovr} (h : fanless a = fanless b) : unhanded a = unhanded b := by
  unfold unhanded; rw [h]

theorem handed_of_fanless {a b : Ovr} (h : fanless a = fanless b) : a.handed = b.handed :=
  calc a.handed = (fanless a).handed := rfl
    _ = (fanless b).handed := by rw [h]
    _ = b.handed := rfl

/-- Records that agree but for the handed demands and the cooling fan. -/
theorem eq_of_unhanded {a b : Ovr} (h : unhanded a = unhanded b) :
    a = { b with handed := a.handed, coolingFan := a.coolingFan, fanJustOff := a.fanJustOff } := by
  cases a; cases b
  simp only [unhanded, fanless, Ovr.mk.injEq] at h ⊢
  simp only [h, and_self]

theorem relayOff_fanless (h : Heater) (s : State) : fanless (relayOff h s).ovr = fanless s.ovr := by
  have hcommand : (handCommand h false s).ovr = s.ovr := by simp
  unfold relayOff
  dsimp only
  split
  · split
    · calc fanless (evalCoolingFan (handCommand h false s)).ovr
          = fanless (handCommand h false s).ovr := rfl
        _ = fanless s.ovr := by rw [hcommand]
    · rw [hcommand]
  · rfl

theorem dropHeater_fanless (h : Heater) (s : State) : fanless (dropHeater h s).ovr = fanless s.ovr := by
  unfold dropHeater
  dsimp only
  split
  · exact relayOff_fanless h _
  · rfl

theorem demandChange_fanless (h : Heater) (d : Nat) (s : State) :
    fanless (demandChange h d s).ovr = fanless s.ovr := by
  unfold demandChange
  dsimp only
  split
  · rfl
  · split
    · rfl
    · rfl
    · split
      · rfl
      · split
        · exact dropHeater_fanless h _
        · split <;> rfl

theorem holdHeater_fanless (h : Heater) (cause : HoldCause) (s : State) :
    fanless (holdHeater h cause s).ovr = fanless s.ovr := by
  unfold holdHeater
  dsimp only
  split
  · rfl
  · split
    · exact dropHeater_fanless h _
    · rfl

theorem handDemand_fanless (o : OvenHeater) (d : Nat) (s : State) :
    fanless (handDemand o d s).ovr = fanless { s.ovr with handed := s.ovr.handed.set o d } := by
  unfold handDemand
  split
  next h =>
    have hset : s.ovr.handed.set o d = s.ovr.handed := by rw [← h]; cases o <;> rfl
    rw [hset]
  next => exact demandChange_fanless _ d _

/-! ## The dropped record -/

/-- A heater not yet touched is dropped alike before and after other drops. -/
theorem dropped_congr {s t : State} (d : Drops s t) {h : Heater} (hh : t.heater h = s.heater h) :
    dropped t h = dropped s h := by
  unfold dropped
  rw [hh, d.sched, d.slot]

/-! ## OV without a bake that runs -/

theorem ovenHeaterAsHeater_inj {o p : OvenHeater} :
    ovenHeaterAsHeater o = ovenHeaterAsHeater p ↔ o = p := by
  cases o <;> cases p <;> simp [ovenHeaterAsHeater]

theorem handZero_heater (o : OvenHeater) (g : Heater) (s : State) :
    (handDemand o 0 s).heater g =
      if g = ovenHeaterAsHeater o ∧ s.ovr.handed.get o ≠ 0 then dropped s g else s.heater g := by
  unfold handDemand
  by_cases hz : s.ovr.handed.get o = 0
  · simp [hz]
  · rw [if_neg hz]
    by_cases hg : g = ovenHeaterAsHeater o
    · subst hg
      rw [if_pos ⟨rfl, hz⟩, demandChange_zero_heater]; rfl
    · rw [if_neg (fun h => hg h.1), demandChange_heater_of_ne 0 _ hg]; rfl

/-- OVR hands 0 for some oven heaters, one after another. -/
def handZeros (l : List OvenHeater) (s : State) : State := l.foldl (fun t o => handDemand o 0 t) s

theorem handZeros_drops (l : List OvenHeater) (s : State) : Drops s (handZeros l s) :=
  Drops.foldl (fun t o => handZero_drops o t) l s

theorem handZeros_unhanded (l : List OvenHeater) (s : State) :
    unhanded (handZeros l s).ovr = unhanded s.ovr :=
  foldl_keeps (g := fun t : State => unhanded t.ovr)
    (fun t o => (unhanded_of_fanless (handDemand_fanless o 0 t)).trans rfl) l s

theorem handDemand_handed (o p : OvenHeater) (d : Nat) (s : State) :
    (handDemand o d s).ovr.handed.get p = if p = o then d else s.ovr.handed.get p := by
  rw [handed_of_fanless (handDemand_fanless o d s)]
  exact PerOven.get_set _ _ _ _

theorem handZeros_handed (l : List OvenHeater) (o : OvenHeater) (s : State) :
    (handZeros l s).ovr.handed.get o = if o ∈ l then 0 else s.ovr.handed.get o := by
  induction l generalizing s with
  | nil => simp [handZeros]
  | cons a l ih =>
    have hcons : handZeros (a :: l) s = handZeros l (handDemand a 0 s) := rfl
    rw [hcons, ih, handDemand_handed]
    by_cases ha : o = a <;> by_cases hl : o ∈ l <;> simp [ha, hl]

theorem handZeros_heater (l : List OvenHeater) (o : OvenHeater) (s : State) :
    (handZeros l s).heater (ovenHeaterAsHeater o) =
      if o ∈ l ∧ s.ovr.handed.get o ≠ 0 then dropped s (ovenHeaterAsHeater o)
      else s.heater (ovenHeaterAsHeater o) := by
  induction l generalizing s with
  | nil => simp [handZeros]
  | cons a l ih =>
    have hcons : handZeros (a :: l) s = handZeros l (handDemand a 0 s) := rfl
    rw [hcons, ih, handDemand_handed]
    by_cases ha : o = a
    · subst ha
      simp [handZero_heater]
    · have hsame : (handDemand a 0 s).heater (ovenHeaterAsHeater o) =
          s.heater (ovenHeaterAsHeater o) := by
        rw [handZero_heater, if_neg]
        rintro ⟨h, -⟩
        exact ha (ovenHeaterAsHeater_inj.1 h)
      rw [hsame, dropped_congr (handZero_drops a s) hsame]
      simp [ha]

/-- Heaters outside the oven are not handed. -/
theorem handZeros_heater_other (l : List OvenHeater) {g : Heater} (hg : ∀ o, g ≠ ovenHeaterAsHeater o)
    (s : State) : (handZeros l s).heater g = s.heater g :=
  foldl_keeps (g := fun t : State => t.heater g)
    (fun t o => by rw [handZero_heater, if_neg (fun h => hg o h.1)]) l s

theorem mem_ovenRankOrder (s : State) (o : OvenHeater) :
    o ∈ ovenRankOrder s ↔ (s.install (ovenHeaterAsHeater o)).installed = true ∧
      (s.install (ovenHeaterAsHeater o)).rank ≤ 6 := by
  have has (h : Heater) : asOvenHeater h = some o ↔ h = ovenHeaterAsHeater o := by
    cases h <;> cases o <;> simp [asOvenHeater, ovenHeaterAsHeater]
  have hall (h : Heater) : h ∈ allHeaters := by cases h <;> decide
  simp only [ovenRankOrder, rankOrder, List.mem_filterMap, List.mem_flatMap, List.mem_range,
    List.mem_filter, hall, has, Bool.and_eq_true, beq_iff_eq, true_and, exists_eq_right,
    exists_eq_right_right']
  rw [and_comm, Nat.lt_succ_iff]

theorem ovenRankOrder_congr {s t : State} (h : t.cfg = s.cfg) : ovenRankOrder t = ovenRankOrder s := by
  unfold ovenRankOrder rankOrder State.install; rw [h]

/-- Without a bake that runs the demand of every oven heater is 0 (R85). -/
theorem heaterDemand_idle {s : State} (h : bakeRunning s = false) (o : OvenHeater) :
    heaterDemand s o = 0 := by
  have hd : ovenDemand s = 0 := by
    unfold ovenDemand; split
    · rfl
    · rw [if_pos (.inl h)]
  unfold heaterDemand; split
  · rfl
  · split
    · rfl
    · exact hd

theorem handAll_idle {s : State} (h : bakeRunning s = false) :
    handAll s = handZeros (ovenRankOrder s) s := by
  unfold handAll handZeros
  simp only [heaterDemand_idle h]

/-- What OVR takes first from an OV that does not run: no BAKE stage where OV holds none (R82). -/
def ovenTaken (s : State) : State :=
  if (s.chan .ov).state = .empty ∨ (s.chan .ov).state = .ready ∨ (s.chan .ov).state = .done then
    noBake .none s
  else s

theorem syncOven_eq (s : State) : syncOven s = refreshOven (handAll (ovenTaken s)) := by
  unfold syncOven ovenTaken
  cases (s.chan .ov).state <;> simp [clearContext_eq]

theorem ovenTaken_chan (s : State) (c : Channel) : (ovenTaken s).chan c = s.chan c := by
  unfold ovenTaken; split <;> rfl

theorem ovenTaken_cfg (s : State) : (ovenTaken s).cfg = s.cfg := by
  unfold ovenTaken; split <;> rfl

theorem syncOven_idle {s : State} (h : (s.chan .ov).state ≠ .running) :
    syncOven s = refreshOven (handZeros (ovenRankOrder s) (ovenTaken s)) := by
  have hbake : bakeRunning (ovenTaken s) = false := by simp [bakeRunning, ovenTaken_chan, h]
  rw [syncOven_eq, handAll_idle hbake, ovenRankOrder_congr (ovenTaken_cfg s)]

/-! ## Channels that go silent -/

/-- From s to t the demands of the channels in question are dropped, and no other channel is touched. -/
structure Silences (which : Channel → Prop) (s t : State) : Prop extends Drops s t where
  hob : ∀ c h, hobHeater c = some h →
    (which c → (s.chan c).level ≠ 0 → t.heater h = dropped s h) ∧
    (¬ which c ∨ (s.chan c).level = 0 → t.heater h = s.heater h)
  oven : ∀ o : OvenHeater,
    (which .ov → o ∈ ovenRankOrder s → t.ovr.handed.get o = 0 ∧
      (s.ovr.handed.get o ≠ 0 →
        t.heater (ovenHeaterAsHeater o) = dropped s (ovenHeaterAsHeater o))) ∧
    (¬ which .ov ∨ o ∉ ovenRankOrder s ∨ s.ovr.handed.get o = 0 →
      t.ovr.handed.get o = s.ovr.handed.get o ∧
        t.heater (ovenHeaterAsHeater o) = s.heater (ovenHeaterAsHeater o))
  chans : ∀ c, ¬ which c → t.chan c = s.chan c

namespace Silences

/-- What the obligations ask of the dropping of demands. -/
theorem demandsDropped {which : Channel → Prop} {s t : State} (h : Silences which s t) :
    Claims.demandsDropped which s t := by
  refine ⟨h.hob, fun o => ?_, h.outs, h.fan⟩
  obtain ⟨hdrop, hkeep⟩ := h.oven o
  simp only [mem_ovenRankOrder] at hdrop hkeep
  refine ⟨fun hov hi hr => hdrop hov ⟨hi, hr⟩, fun hcase => hkeep ?_⟩
  obtain hov | hi | hz := hcase
  · exact .inl hov
  · exact .inr (.inl (by simp [hi]))
  · exact .inr (.inr hz)

theorem of_iff {p q : Channel → Prop} {s t : State} (h : Silences p s t) (hpq : ∀ c, p c ↔ q c) :
    Silences q s t := by
  obtain rfl : p = q := funext fun c => propext (hpq c)
  exact h

/-- Nothing dropped. -/
theorem of_drops {p : Channel → Prop} {s t : State} (d : Drops s t) (hp : ∀ c, ¬ p c)
    (hh : ∀ h, t.heater h = s.heater h) (ho : t.ovr.handed = s.ovr.handed)
    (hc : ∀ c, t.chan c = s.chan c) : Silences p s t where
  toDrops := d
  hob := fun c h _ => ⟨fun hc => absurd hc (hp c), fun _ => hh h⟩
  oven := fun o => ⟨fun hov => absurd hov (hp _), fun _ => ⟨by rw [ho], hh _⟩⟩
  chans := fun c _ => hc c

/-- One set of channels after another, of no channel in common. -/
theorem trans {p q : Channel → Prop} {s t u : State} (h1 : Silences p s t) (h2 : Silences q t u)
    (hpq : ∀ c, p c → ¬ q c) : Silences (fun c => p c ∨ q c) s u where
  toDrops := h1.toDrops.trans h2.toDrops
  chans := fun c hc => (h2.chans c fun h => hc (.inr h)).trans (h1.chans c fun h => hc (.inl h))
  hob := fun c h hch => by
    obtain ⟨drop1, keep1⟩ := h1.hob c h hch
    obtain ⟨drop2, keep2⟩ := h2.hob c h hch
    constructor
    · rintro (hp | hq) hl
      · rw [keep2 (.inl (hpq c hp)), drop1 hp hl]
      · have hnp : ¬ p c := fun hp => hpq c hp hq
        rw [drop2 hq (by rw [h1.chans c hnp]; exact hl), dropped_congr h1.toDrops (keep1 (.inl hnp))]
    · intro hcase
      by_cases hq : q c
      · have hnp : ¬ p c := fun hp => hpq c hp hq
        have hl : (s.chan c).level = 0 := hcase.resolve_left fun hn => hn (.inr hq)
        rw [keep2 (.inr (by rw [h1.chans c hnp]; exact hl)), keep1 (.inl hnp)]
      · rw [keep2 (.inl hq), keep1 (hcase.imp_left fun hn hp => hn (.inl hp))]
  oven := fun o => by
    obtain ⟨drop1, keep1⟩ := h1.oven o
    obtain ⟨drop2, keep2⟩ := h2.oven o
    rw [ovenRankOrder_congr h1.cfg] at drop2 keep2
    constructor
    · rintro (hp | hq) ho
      · obtain ⟨hzero, hdrop⟩ := drop1 hp ho
        obtain ⟨hh, hr⟩ := keep2 (.inl (hpq _ hp))
        exact ⟨hh.trans hzero, fun hne => hr.trans (hdrop hne)⟩
      · have hnp : ¬ p .ov := fun hp => hpq _ hp hq
        obtain ⟨hsame, hrec⟩ := keep1 (.inl hnp)
        obtain ⟨hzero, hdrop⟩ := drop2 hq ho
        refine ⟨hzero, fun hne => ?_⟩
        rw [hdrop (by rw [hsame]; exact hne), dropped_congr h1.toDrops hrec]
    · intro hcase
      by_cases hq : q .ov
      · have hnp : ¬ p .ov := fun hp => hpq _ hp hq
        obtain ⟨hsame, hrec⟩ := keep1 (.inl hnp)
        have hrest := hcase.resolve_left fun hn => hn (.inr hq)
        obtain ⟨hh, hr⟩ := keep2 (.inr (by rw [hsame]; exact hrest))
        exact ⟨hh.trans hsame, hr.trans hrec⟩
      · obtain ⟨hsame, hrec⟩ := keep1 (hcase.imp_left fun hn hp => hn (.inl hp))
        obtain ⟨hh, hr⟩ := keep2 (.inl hq)
        exact ⟨hh.trans hsame, hr.trans hrec⟩

/-- A start that differs in the records of the channels in question alone, and in no level. -/
theorem of_start {p : Channel → Prop} {s v t : State} (h : Silences p v t) (hcfg : v.cfg = s.cfg)
    (hcur : v.plr.cursor = s.plr.cursor) (hpfs : v.pfs = s.pfs) (hout : v.out = s.out)
    (hovr : v.ovr = s.ovr) (hlevel : ∀ c, (v.chan c).level = (s.chan c).level)
    (hchan : ∀ c, ¬ p c → v.chan c = s.chan c) : Silences p s t := by
  have d : Drops s v := .of_same hcfg hcur hpfs hout (by rw [hovr]) (by rw [hovr]) (by rw [hovr])
  have hheater (g : Heater) : v.heater g = s.heater g := by unfold State.heater; rw [hpfs]
  refine ⟨d.trans h.toDrops, fun c g hc => ?_, fun o => ?_, fun c hc => ?_⟩
  · have hob := h.hob c g hc
    rwa [hlevel, dropped_congr d (hheater g), hheater] at hob
  · have hoven := h.oven o
    rwa [ovenRankOrder_congr hcfg, hovr, dropped_congr d (hheater _), hheater] at hoven
  · rw [h.chans c hc, hchan c hc]

/-- A step at each of some channels, where the step at a channel silences it when its record asks so. -/
theorem foldl {f : State → Channel → State} {p ready : Channel → ChannelRec → Prop}
    (hf : ∀ s c, ready c (s.chan c) → Silences (fun d => d = c ∧ p c (s.chan c)) s (f s c))
    {cs : List Channel} (hcs : cs.Nodup) {s : State} (hready : ∀ c ∈ cs, ready c (s.chan c)) :
    Silences (fun c => c ∈ cs ∧ p c (s.chan c)) s (cs.foldl f s) := by
  induction cs generalizing s with
  | nil => exact of_drops (.refl s) (by simp) (fun _ => rfl) rfl (fun _ => rfl)
  | cons c cs ih =>
    obtain ⟨hnot, hnodup⟩ := List.nodup_cons.1 hcs
    have hstep := hf s c (hready c List.mem_cons_self)
    have hkeeps (d : Channel) (hd : d ∈ cs) : (f s c).chan d = s.chan d :=
      hstep.chans d fun h => hnot (h.1 ▸ hd)
    have hrest := ih hnodup (s := f s c) fun d hd => by
      rw [hkeeps d hd]; exact hready d (List.mem_cons_of_mem c hd)
    refine (hstep.trans hrest fun d h h' => hnot (h.1 ▸ h'.1)).of_iff fun d => ?_
    constructor
    · rintro (⟨rfl, h⟩ | ⟨hd, h⟩)
      · exact ⟨List.mem_cons_self, h⟩
      · exact ⟨List.mem_cons_of_mem c hd, hkeeps d hd ▸ h⟩
    · rintro ⟨hd, h⟩
      obtain rfl | hd := List.mem_cons.1 hd
      · exact .inl ⟨rfl, h⟩
      · exact .inr ⟨hd, (hkeeps d hd).symm ▸ h⟩

end Silences

end Sys2Proof.Proofs
end

section
/-! SUPPORT. The end of an event at one channel that does not run (R49), and what it keeps. -/

namespace Sys2Proof.Proofs

open Sys2Proof Sys2Proof.Machine Sys2Proof.Claims

/-! ## The three kinds of channel -/

theorem channelLevel_idle {r : ChannelRec} (h : r.state ≠ .running) : channelLevel r = 0 := if_neg h

/-- A hob zone or the grill that does not run hands level 0 when it had one. -/
theorem sync_hob_idle {c : Channel} {h : Heater} {s : State} (hc : hobHeater c = some h)
    (hst : (s.chan c).state ≠ .running) :
    sync c s = if (s.chan c).level = 0 then s
      else demandChange h 0 (s.setChan c { s.chan c with level := 0 }) := by
  rw [sync_of_hob hc, syncLevel, channelLevel_idle hst]
  simp only [eq_comm (a := 0)]
  rfl

theorem hobHeater_inj {c d : Channel} {h : Heater} (hc : hobHeater c = some h)
    (hd : hobHeater d = some h) : d = c := by
  cases c <;> cases hc <;> cases d <;> cases hd <;> rfl

theorem hob_ne_oven {c : Channel} {h : Heater} (hc : hobHeater c = some h) (o : OvenHeater) :
    h ≠ ovenHeaterAsHeater o := by
  cases c <;> cases o <;> simp_all [hobHeater, ovenHeaterAsHeater] <;> simp [← hc]

theorem demandZero_chan (h : Heater) (s : State) (c : Channel) :
    (demandChange h 0 s).chan c = s.chan c := by simp

theorem sync_hob_silences {c : Channel} {h : Heater} {s : State} (hc : hobHeater c = some h)
    (hst : (s.chan c).state ≠ .running) : Silences (· = c) s (sync c s) := by
  rw [sync_hob_idle hc hst]
  split
  next hl =>
    exact ⟨.refl s, fun d g hd => ⟨fun hdc hne => absurd (hdc ▸ hl) hne, fun _ => rfl⟩,
      fun o => ⟨fun hov => absurd (hov ▸ hc) (by simp [hobHeater]), fun _ => ⟨rfl, rfl⟩⟩, fun _ _ => rfl⟩
  next hl =>
    have dchan := setChan_drops s c { s.chan c with level := 0 }
    have hself : (demandChange h 0 (s.setChan c { s.chan c with level := 0 })).heater h = dropped s h :=
      (demandChange_zero_heater h _).trans (dropped_congr dchan rfl)
    have hother {g : Heater} (hg : g ≠ h) :
        (demandChange h 0 (s.setChan c { s.chan c with level := 0 })).heater g = s.heater g :=
      demandChange_heater_of_ne 0 _ hg
    refine ⟨(demandZero_drops h _).after dchan, fun d g hd => ⟨?_, fun hcase => ?_⟩, fun o =>
      ⟨fun hov => absurd (hov ▸ hc) (by simp [hobHeater]), fun _ => ⟨?_, ?_⟩⟩, fun d hd => ?_⟩
    · rintro rfl -
      obtain rfl : h = g := Option.some.inj (hc.symm.trans hd)
      exact hself
    · refine hother ?_
      rintro rfl
      obtain rfl := hobHeater_inj hc hd
      exact hcase.elim (fun hn => hn rfl) hl
    · rw [handed_of_fanless (demandChange_fanless h 0 _)]; rfl
    · exact hother (hob_ne_oven hc o).symm
    · rw [demandZero_chan, State.setChan_chan_of_ne _ _ hd]

theorem sync_burner_silences {c : Channel} {n : Burner} (hc : channelBurner c = some n) (s : State) :
    Silences (· = c) s (sync c s) := by
  have hhob : hobHeater c = none := by cases c <;> simp_all [channelBurner, hobHeater]
  have hov : ¬ Channel.ov = c := by rintro rfl; simp [channelBurner] at hc
  rw [sync_of_burner hc]
  have d : Drops s (syncPermit c n s) :=
    .of_same (by simp) (by simp) (by simp) (by simp) (by simp) (by simp) (by simp)
  refine ⟨d, fun d g hd => ⟨?_, fun _ => by simp⟩, fun o => ⟨fun h => absurd h hov, fun _ => by simp⟩,
    fun d _ => by simp⟩
  rintro rfl
  simp [hhob] at hd

theorem ovenTaken_drops (s : State) : Drops s (ovenTaken s) := by
  unfold ovenTaken; split
  · exact withOvr_drops rfl rfl rfl
  · exact .refl s

theorem ovenTaken_handed (s : State) : (ovenTaken s).ovr.handed = s.ovr.handed := by
  unfold ovenTaken; split <;> rfl

theorem ovenTaken_heater (s : State) (h : Heater) : (ovenTaken s).heater h = s.heater h := by
  unfold ovenTaken; split <;> rfl

theorem refreshOven_drops (s : State) : Drops s (refreshOven s) := withOvr_drops rfl rfl rfl

theorem sync_oven_silences {s : State} (hst : (s.chan .ov).state ≠ .running) :
    Silences (· = .ov) s (sync .ov s) := by
  show Silences _ s (syncOven s)
  rw [syncOven_idle hst]
  have dtaken := ovenTaken_drops s
  have hheater (g : Heater) : (refreshOven (handZeros (ovenRankOrder s) (ovenTaken s))).heater g =
      (handZeros (ovenRankOrder s) (ovenTaken s)).heater g := rfl
  have hoven (o : OvenHeater) := handZeros_heater (ovenRankOrder s) o (ovenTaken s)
  have hhanded (o : OvenHeater) := handZeros_handed (ovenRankOrder s) o (ovenTaken s)
  rw [ovenTaken_handed] at hoven hhanded
  refine ⟨((refreshOven_drops _).after (handZeros_drops _ _)).after dtaken, fun c g hc =>
    ⟨fun hov => absurd (hov ▸ hc) (by simp [hobHeater]), fun _ => ?_⟩,
    fun o => ⟨fun _ ho => ⟨?_, fun hne => ?_⟩,
      fun hcase => ?_⟩, fun c _ => ?_⟩
  · rw [hheater, handZeros_heater_other _ (hob_ne_oven hc), ovenTaken_heater]
  · exact (hhanded o).trans (if_pos ho)
  · rw [hheater, hoven, if_pos ⟨ho, hne⟩, dropped_congr dtaken (ovenTaken_heater s _)]
  · have hrest := hcase.resolve_left fun h => h rfl
    constructor
    · refine (hhanded o).trans ?_
      split
      next ho => exact ((hrest.resolve_left fun h => h ho)).symm
      next => rfl
    · rw [hheater, hoven, if_neg, ovenTaken_heater]
      rintro ⟨ho, hne⟩
      exact hne (hrest.resolve_left fun h => h ho)
  · have hfold : (handZeros (ovenRankOrder s) (ovenTaken s)).chan c = (ovenTaken s).chan c :=
      foldl_keeps (g := fun t : State => t.chan c) (fun t o => by simp) _ _
    exact hfold.trans (ovenTaken_chan s c)

/-- The end of an event at a channel that does not run silences it. -/
theorem sync_silences {c : Channel} {s : State} (hst : (s.chan c).state ≠ .running) :
    Silences (· = c) s (sync c s) := by
  obtain ⟨n, hn, -⟩ | rfl | ⟨h, hh, -⟩ := channel_kinds c
  · exact sync_burner_silences hn s
  · exact sync_oven_silences hst
  · exact sync_hob_silences hh hst

/-! ## What it keeps -/

/-- An electric channel hands nothing to the burners and raises no notice. -/
theorem sync_electric_keeps {c : Channel} (hc : isElectric c = true) (s : State) :
    (sync c s).bsv = s.bsv ∧ (sync c s).ntq = s.ntq := by
  cases c <;> simp [isElectric] at hc <;> simp [sync]

/-- Only OV changes more of OVR than the cooling fan. -/
theorem sync_fanless {c : Channel} (hc : c ≠ .ov) (s : State) :
    fanless (sync c s).ovr = fanless s.ovr := by
  obtain ⟨n, hn, -⟩ | rfl | ⟨h, hh, -⟩ := channel_kinds c
  · rw [sync_of_burner hn]; simp
  · exact absurd rfl hc
  · rw [sync_of_hob hh]
    unfold syncLevel
    dsimp only
    split
    · rfl
    · exact demandChange_fanless h _ _

theorem refreshOven_idle {s : State} (h : bakeRunning s = false) :
    refreshOven s = s.withOvr { s.ovr with
      ovenFan := false, lamp := decide (s.ovr.doorState = .opened) } := by
  simp [refreshOven, ovenFanValue, lampValue, h]

/-- An OV that does not run has its fan off, and its lamp follows the door (R95, R96). -/
theorem sync_oven_unhanded {s : State} (hst : (s.chan .ov).state ≠ .running) :
    unhanded (sync .ov s).ovr = unhanded { (ovenTaken s).ovr with
      ovenFan := false, lamp := decide (s.ovr.doorState = .opened) } := by
  have hchan : (handZeros (ovenRankOrder s) (ovenTaken s)).chan .ov = s.chan .ov :=
    (foldl_keeps (g := fun t : State => t.chan .ov) (fun t o => by simp) _ _).trans
      (ovenTaken_chan s .ov)
  have hbake : bakeRunning (handZeros (ovenRankOrder s) (ovenTaken s)) = false := by
    simp [bakeRunning, hchan, hst]
  have hdoor : (ovenTaken s).ovr.doorState = s.ovr.doorState := by unfold ovenTaken; split <;> rfl
  obtain ⟨a, b, c, hovr⟩ : ∃ a b c, (handZeros (ovenRankOrder s) (ovenTaken s)).ovr =
      { (ovenTaken s).ovr with handed := a, coolingFan := b, fanJustOff := c } :=
    ⟨_, _, _, eq_of_unhanded (handZeros_unhanded _ _)⟩
  show unhanded (syncOven s).ovr = _
  rw [syncOven_idle hst, refreshOven_idle hbake, State.withOvr_ovr, hovr, ← hdoor]
  rfl

end Sys2Proof.Proofs
end

section
/-! The loss of the link (R24, R170). -/

namespace Sys2Proof.Proofs

open Sys2Proof Sys2Proof.Machine Sys2Proof.Claims

/-! ## Steps at several channels -/

/-- What is read after a step at each of some keys, where the step at a key writes what is read there. -/
theorem foldl_pointwise {σ κ β : Type} [DecidableEq κ] {read : σ → κ → β} {f : σ → κ → σ}
    {g : κ → β → β} {ready : σ → Prop} (hready : ∀ s c, ready s → ready (f s c))
    (hf : ∀ s c d, ready s → read (f s c) d = if d = c then g c (read s c) else read s d)
    {cs : List κ} (hcs : cs.Nodup) {s : σ} (hs : ready s) (d : κ) :
    read (cs.foldl f s) d = if d ∈ cs then g d (read s d) else read s d := by
  induction cs generalizing s with
  | nil => rfl
  | cons c cs ih =>
    obtain ⟨hnot, hnodup⟩ := List.nodup_cons.1 hcs
    rw [List.foldl_cons, ih hnodup (hready s c hs), hf s c d hs]
    by_cases hd : d = c
    · subst hd; simp [hnot]
    · simp [hd]

/-- The records after a step at each of some channels that writes that channel's record alone. -/
theorem foldl_chan {f : State → Channel → State} {g : Channel → ChannelRec → ChannelRec}
    (hf : ∀ s c d, (f s c).chan d = if d = c then g c (s.chan c) else s.chan d)
    {cs : List Channel} (hcs : cs.Nodup) (s : State) (d : Channel) :
    (cs.foldl f s).chan d = if d ∈ cs then g d (s.chan d) else s.chan d :=
  foldl_pointwise (read := State.chan) (ready := fun _ => True) (fun _ _ _ => trivial)
    (fun s c d _ => hf s c d) hcs trivial d

/-- A state that has dropped demands, written from the state before. -/
theorem eq_of_drops {s u : State} (d : Drops s u) (hpins : u.pins = s.pins) (hlnk : u.lnk = s.lnk)
    (hntq : u.ntq = s.ntq) (hdrawn : u.drawn = s.drawn) (hpending : u.pending = s.pending) :
    u = { s with
      plr := { s.plr with chans := u.plr.chans }
      pst := u.pst
      pfs := { s.pfs with heaters := u.pfs.heaters }
      ovr := u.ovr
      bsv := u.bsv
      out := { s.out with heaters := u.out.heaters } } := by
  have hplr : u.plr = { s.plr with chans := u.plr.chans } := by
    dsimp only; rw [← d.cursor]
  rw [← d.pfs, ← d.out, ← hplr, ← hpins, ← hlnk, ← hntq, ← hdrawn, ← hpending, ← d.cfg]

/-- Writing the fan and the lamp over records that agree but for what a handed demand writes. -/
theorem unhanded_outputs {a b : Ovr} (h : unhanded a = unhanded b) (fan lamp : Bool) :
    unhanded { a with ovenFan := fan, lamp := lamp } =
      unhanded { b with ovenFan := fan, lamp := lamp } := by
  obtain ⟨x, y, z, rfl⟩ : ∃ x y z, a = { b with handed := x, coolingFan := y, fanJustOff := z } :=
    ⟨_, _, _, eq_of_unhanded h⟩
  rfl

theorem doorState_of_unhanded {a b : Ovr} (h : unhanded a = unhanded b) : a.doorState = b.doorState :=
  calc a.doorState = (unhanded a).doorState := rfl
    _ = (unhanded b).doorState := by rw [h]
    _ = b.doorState := rfl

/-! ## A pause -/

/-- The record of a channel that PAUSE or a lost link has paused. -/
def pausedRecord (c : Channel) (r : ChannelRec) : ChannelRec :=
  { r with
    state := .paused, secondTimer := none, pauseTimer := some { left := 600, phase := 0 }
    level := if (hobHeater c).isSome then 0 else r.level }

theorem linkPause_running {c : Channel} {s : State} (h : (s.chan c).state = .running) :
    linkPause c s = sync c (s.setChan c { s.chan c with
      state := .paused, secondTimer := none, pauseTimer := some { left := 600, phase := 0 } }) :=
  if_pos h

theorem linkPause_other {c : Channel} {s : State} (h : (s.chan c).state ≠ .running) :
    linkPause c s = s := if_neg h

theorem linkPause_chan (s : State) (c d : Channel) :
    (linkPause c s).chan d =
      if d = c then (if (s.chan c).state = .running then pausedRecord c (s.chan c) else s.chan c)
      else s.chan d := by
  by_cases h : (s.chan c).state = .running
  · rw [linkPause_running h, sync_chan, if_pos h]
    by_cases hd : d = c
    · subst hd
      cases hhob : (hobHeater d).isSome <;> simp [pausedRecord, hhob, channelLevel]
    · simp [hd, State.setChan_chan_of_ne]
  · rw [linkPause_other h, if_neg h]
    split
    next hd => rw [hd]
    next => rfl

theorem linkPause_silences (s : State) (c : Channel) :
    Silences (fun d => d = c ∧ (s.chan c).state = .running) s (linkPause c s) := by
  by_cases h : (s.chan c).state = .running
  · rw [linkPause_running h]
    refine Silences.of_iff (Silences.of_start (sync_silences (c := c) ?_) rfl rfl rfl rfl rfl
      (fun d => ?_) fun d hd => ?_) fun d => ?_
    · simp
    · rw [State.setChan_chan]; split
      next hd => rw [hd]
      next => rfl
    · exact State.setChan_chan_of_ne _ _ hd
    · simp [h]
  · rw [linkPause_other h]
    exact .of_drops (.refl s) (fun d hd => h hd.2) (fun _ => rfl) rfl fun _ => rfl

theorem linkPause_keeps {c : Channel} (hc : isElectric c = true) (s : State) :
    (linkPause c s).bsv = s.bsv ∧ (linkPause c s).ntq = s.ntq := by
  by_cases h : (s.chan c).state = .running
  · rw [linkPause_running h]; exact sync_electric_keeps hc _
  · rw [linkPause_other h]; exact ⟨rfl, rfl⟩

theorem linkPause_fanless {c : Channel} (hc : c ≠ .ov) (s : State) :
    fanless (linkPause c s).ovr = fanless s.ovr := by
  by_cases h : (s.chan c).state = .running
  · rw [linkPause_running h]; exact sync_fanless hc _
  · rw [linkPause_other h]

theorem linkPause_oven {s : State} (h : (s.chan .ov).state = .running) :
    unhanded (linkPause .ov s).ovr = unhanded { s.ovr with
      ovenFan := false, lamp := decide (s.ovr.doorState = .opened) } := by
  have htaken (r : ChannelRec) (hr : r.state = .paused) :
      ovenTaken (s.setChan .ov r) = s.setChan .ov r := if_neg (by simp [hr])
  rw [linkPause_running h, sync_oven_unhanded (by simp), htaken _ rfl]
  rfl

/-! ## The lost link -/

/-- The electric channels after the loss of the link. -/
@[irreducible] def linkPaused (s : State) : State :=
  [Channel.z1, .z2, .ov, .gr].foldl (fun t c => linkPause c t) s

theorem mem_electric (c : Channel) : c ∈ [Channel.z1, .z2, .ov, .gr] ↔ isElectric c = true := by
  cases c <;> simp [isElectric]

theorem linkPaused_chan (s : State) (d : Channel) :
    (linkPaused s).chan d =
      if isElectric d = true ∧ (s.chan d).state = .running then pausedRecord d (s.chan d)
      else s.chan d := by
  unfold linkPaused
  rw [foldl_chan (g := fun c r => if r.state = .running then pausedRecord c r else r) linkPause_chan
    (by decide)]
  simp only [mem_electric]
  by_cases he : isElectric d = true <;> simp [he]

theorem linkPaused_silences (s : State) :
    Silences (fun c => isElectric c = true ∧ (s.chan c).state = .running) s (linkPaused s) := by
  unfold linkPaused
  refine (Silences.foldl (p := fun _ r => r.state = .running) (ready := fun _ _ => True)
    (fun t c _ => linkPause_silences t c) (by decide) (fun _ _ => trivial)).of_iff fun c => ?_
  rw [mem_electric]

theorem linkPaused_keeps (s : State) :
    (linkPaused s).bsv = s.bsv ∧ (linkPaused s).ntq = s.ntq ∧ (linkPaused s).pins = s.pins ∧
      (linkPaused s).lnk = s.lnk ∧ (linkPaused s).pst = s.pst ∧ (linkPaused s).drawn = s.drawn ∧
      (linkPaused s).pending = s.pending := by
  have hz1 := linkPause_keeps (c := .z1) rfl
  have hz2 := linkPause_keeps (c := .z2) rfl
  have hov := linkPause_keeps (c := .ov) rfl
  have hgr := linkPause_keeps (c := .gr) rfl
  simp [linkPaused, hz1, hz2, hov, hgr]

/-- OVR after the loss of the link: the outputs of an OV that has been paused. -/
theorem linkPaused_unhanded (s : State) :
    unhanded (linkPaused s).ovr = unhanded
      (if (s.chan .ov).state = .running then
        { s.ovr with ovenFan := false, lamp := decide (s.ovr.doorState = .opened) }
      else s.ovr) := by
  have hbefore : unhanded (linkPause .z2 (linkPause .z1 s)).ovr = unhanded s.ovr :=
    unhanded_of_fanless ((linkPause_fanless (by decide) _).trans (linkPause_fanless (by decide) _))
  have hchan : (linkPause .z2 (linkPause .z1 s)).chan .ov = s.chan .ov := by
    rw [linkPause_chan, if_neg (by decide), linkPause_chan, if_neg (by decide)]
  have hafter : unhanded (linkPaused s).ovr =
      unhanded (linkPause .ov (linkPause .z2 (linkPause .z1 s))).ovr := by
    unfold linkPaused
    exact unhanded_of_fanless (linkPause_fanless (by decide) _)
  rw [hafter]
  by_cases h : (s.chan .ov).state = .running
  · rw [if_pos h, linkPause_oven (by rw [hchan]; exact h), doorState_of_unhanded hbefore]
    exact unhanded_outputs hbefore _ _
  · rw [if_neg h, linkPause_other (by rw [hchan]; exact h), hbefore]

theorem raise_withLnk (n : Notice) (s : State) (x : Lnk) :
    raise n (s.withLnk x) = (raise n s).withLnk x := by
  rw [raise_eq_withNtq n (s.withLnk x), raise_ntq_congr n (s := s) (t := s.withLnk x) rfl rfl]
  conv_rhs => rw [raise_eq_withNtq n s]
  rfl

/-- The commands and OUT do not see the link. -/
theorem Silences.withLnk {p : Channel → Prop} {s t : State} (h : Silences p s t) (x : Lnk) :
    Silences p s (t.withLnk x) where
  off := h.off
  fan := h.fan
  buffer := h.buffer
  cfg := h.cfg
  cursor := h.cursor
  pfs := h.pfs
  out := h.out
  outs := h.outs
  hob := h.hob
  oven := h.oven
  chans := h.chans

/-- The state before the notice of a lost link, with the link as it was before. -/
def linkSilenced (s : State) : State :=
  (linkPaused (s.withLnk { s.lnk with supervision := none })).withLnk s.lnk

theorem loseLink_eq (s : State) :
    loseLink s = (raise linkLostNotice (linkSilenced s)).withLnk
      { s.lnk with supervision := none, linkLostSeen := true } := by
  have hlnk : (raise linkLostNotice (linkPaused (s.withLnk { s.lnk with supervision := none }))).lnk =
      { s.lnk with supervision := none } := by
    rw [(raise_frame _ _).2.1, (linkPaused_keeps _).2.2.2.1]; rfl
  have hlose (t : State) (ht : t = raise linkLostNotice (linkPaused
      (s.withLnk { s.lnk with supervision := none }))) :
      loseLink s = t.withLnk { t.lnk with linkLostSeen := true } := by
    subst ht; simp only [loseLink, linkPaused]
  rw [hlose _ rfl, hlnk, linkSilenced, raise_withLnk, State.withLnk_withLnk]

theorem linkSilenced_silences (s : State) :
    Silences (fun c => isElectric c = true ∧ (s.chan c).state = .running) s (linkSilenced s) :=
  ((linkPaused_silences (s.withLnk { s.lnk with supervision := none })).withLnk s.lnk).of_start
    rfl rfl rfl rfl rfl (fun _ => rfl) (fun _ _ => rfl)

theorem linkSilenced_chan (s : State) (c : Channel) :
    (linkSilenced s).chan c =
      if isElectric c = true ∧ (s.chan c).state = .running then pausedRecord c (s.chan c)
      else s.chan c :=
  linkPaused_chan (s.withLnk { s.lnk with supervision := none }) c

theorem linkSilenced_unhanded (s : State) :
    unhanded (linkSilenced s).ovr = unhanded
      (if (s.chan .ov).state = .running then
        { s.ovr with ovenFan := false, lamp := decide (s.ovr.doorState = .opened) }
      else s.ovr) :=
  linkPaused_unhanded (s.withLnk { s.lnk with supervision := none })

theorem linkSilenced_eq (s : State) :
    linkSilenced s = { s with
      plr := { s.plr with chans := (linkSilenced s).plr.chans }
      pfs := { s.pfs with heaters := (linkSilenced s).pfs.heaters }
      ovr := (linkSilenced s).ovr
      out := { s.out with heaters := (linkSilenced s).out.heaters } } := by
  have hkeeps : (linkSilenced s).pins = s.pins ∧ (linkSilenced s).lnk = s.lnk ∧
      (linkSilenced s).pst = s.pst ∧ (linkSilenced s).bsv = s.bsv ∧ (linkSilenced s).ntq = s.ntq ∧
      (linkSilenced s).drawn = s.drawn ∧ (linkSilenced s).pending = s.pending := by
    simp [linkSilenced, linkPaused_keeps]
  obtain ⟨hpins, hlnk, hpst, hbsv, hntq, hdrawn, hpending⟩ := hkeeps
  have heq := eq_of_drops (linkSilenced_silences s).toDrops hpins hlnk hntq hdrawn hpending
  rwa [hpst, hbsv] at heq

theorem hob_isSome_iff {c : Channel} (hc : isElectric c = true) :
    (hobHeater c).isSome = true ↔ ¬ c = .ov := by
  cases c <;> simp_all [isElectric, hobHeater]

theorem pausedRecord_electric {c : Channel} (hc : isElectric c = true) (r : ChannelRec) :
    pausedRecord c r = { r with
      state := .paused, secondTimer := none, pauseTimer := some { left := 600, phase := 0 }
      level := if c = .ov then r.level else 0 } := by
  simp only [pausedRecord, hob_isSome_iff hc, ite_not]

/-- Settles O8: the state before the notice is linkSilenced. -/
theorem linkLossPausesElectricChannels : Obligations.LinkLossPausesElectricChannels := by
  refine fun s => ⟨fun h => ?_, fun n h => ⟨loseLink s, linkSilenced s, ?_⟩⟩
  · show execLinkSupervisionExpiry s = _
    simp [execLinkSupervisionExpiry, h]
  · intro runs
    have hovr := linkSilenced_unhanded s
    refine ⟨?_, loseLink_eq s, fun c hc => ?_, fun c hc => ?_,
      (linkSilenced_silences s).demandsDropped, fun hov => ?_, fun hov => ?_, linkSilenced_eq s⟩
    · show execLinkSupervisionExpiry s = _
      simp [execLinkSupervisionExpiry, h]
    · rw [linkSilenced_chan, if_pos hc, pausedRecord_electric hc.1]
    · rw [linkSilenced_chan, if_neg hc]
    · rw [if_pos hov.2] at hovr
      exact eq_of_unhanded hovr
    · rw [if_neg fun h => hov ⟨rfl, h⟩] at hovr
      exact eq_of_unhanded hovr

end Sys2Proof.Proofs
end

section
/-! STOP ALL (R21, R121, R162). -/

namespace Sys2Proof.Proofs

open Sys2Proof Sys2Proof.Machine Sys2Proof.Claims Sys2Proof.Safety

/-! ## The channels and the load context -/

/-- The record of a channel that has been emptied, before its level is handed. -/
def blankRecord (r : ChannelRec) : ChannelRec :=
  { state := .empty, plan := [], stageIndex := 0, segIndex := 0, segCount := 0,
    remaining := .timed 0, secondTimer := none, pauseTimer := none, lastEnd := .none,
    haltCause := .none, planEnd := .none, level := r.level }

theorem emptyRecord_chan (s : State) (c d : Channel) :
    (emptyRecord c s).chan d = if d = c then blankRecord (s.chan c) else s.chan d :=
  State.setChan_chan s c d _

/-- Every channel of a list is emptied. -/
def emptyRecords (cs : List Channel) (s : State) : State := cs.foldl (fun t c => emptyRecord c t) s

theorem emptyRecords_chan {cs : List Channel} (hcs : cs.Nodup) (s : State) (d : Channel) :
    (emptyRecords cs s).chan d = if d ∈ cs then blankRecord (s.chan d) else s.chan d :=
  foldl_chan (g := fun _ => blankRecord) emptyRecord_chan hcs s d

theorem emptyRecords_pst {cs : List Channel} (hcs : cs.Nodup) (s : State) :
    (emptyRecords cs s).pst =
      { s.pst with free := s.pst.free + (cs.map (fun c => (s.chan c).plan.length)).sum } := by
  induction cs generalizing s with
  | nil => rfl
  | cons c cs ih =>
    obtain ⟨hnot, hnodup⟩ := List.nodup_cons.1 hcs
    have hcons : emptyRecords (c :: cs) s = emptyRecords cs (emptyRecord c s) := rfl
    have hplans : cs.map (fun d => ((emptyRecord c s).chan d).plan.length) =
        cs.map (fun d => (s.chan d).plan.length) :=
      List.map_congr_left fun d hd => by
        rw [emptyRecord_chan, if_neg (by rintro rfl; exact hnot hd)]
    have hfirst : (emptyRecord c s).pst =
        { s.pst with free := s.pst.free + (s.chan c).plan.length } := rfl
    rw [hcons, ih hnodup, hplans, hfirst]
    simp [Nat.add_assoc]

theorem emptyRecords_keeps (cs : List Channel) (s : State) :
    (emptyRecords cs s).cfg = s.cfg ∧ (emptyRecords cs s).plr.cursor = s.plr.cursor ∧
      (emptyRecords cs s).pfs = s.pfs ∧ (emptyRecords cs s).out = s.out ∧
      (emptyRecords cs s).ovr = s.ovr ∧ (emptyRecords cs s).bsv = s.bsv ∧
      (emptyRecords cs s).ntq = s.ntq := by
  have keeps {β : Type} (g : State → β) (hg : ∀ t c, g (emptyRecord c t) = g t) :
      g (emptyRecords cs s) = g s := foldl_keeps (fun t c => hg t c) cs s
  exact ⟨keeps State.cfg fun _ _ => rfl, keeps (fun t => t.plr.cursor) fun _ _ => rfl,
    keeps State.pfs fun _ _ => rfl, keeps State.out fun _ _ => rfl, keeps State.ovr fun _ _ => rfl,
    keeps State.bsv fun _ _ => rfl, keeps State.ntq fun _ _ => rfl⟩

/-! ## The end of the event at emptied channels -/

/-- The end of an event at every channel of a list. -/
def syncs (cs : List Channel) (s : State) : State := cs.foldl (fun t c => sync c t) s

theorem syncs_cons (c : Channel) (cs : List Channel) (s : State) :
    syncs (c :: cs) s = syncs cs (sync c s) := rfl

theorem syncs_chan {cs : List Channel} (hcs : cs.Nodup) (s : State) (d : Channel) :
    (syncs cs s).chan d =
      if d ∈ cs then
        (if (hobHeater d).isSome then { s.chan d with level := channelLevel (s.chan d) } else s.chan d)
      else s.chan d := by
  refine foldl_chan (g := fun c r =>
    if (hobHeater c).isSome then { r with level := channelLevel r } else r) (fun t c e => ?_) hcs s d
  rw [sync_chan]
  by_cases he : e = c <;> cases hh : (hobHeater c).isSome <;> simp [he]

theorem channelBurner_iff (c : Channel) (n : Burner) : channelBurner c = some n ↔ burnerChannel n = c := by
  cases c <;> cases n <;> simp [channelBurner, burnerChannel]

/-- An emptied B channel gives its permit back, and raises nothing. -/
theorem sync_empty_bsv {c : Channel} {s : State} (h : (s.chan c).state = .empty) :
    (sync c s).ntq = s.ntq ∧ (sync c s).bsv = { s.bsv with burners := (sync c s).bsv.burners } ∧
      ∀ n, (sync c s).burner n =
        if burnerChannel n = c then { s.burner n with permit := true } else s.burner n := by
  simp only [← channelBurner_iff]
  obtain ⟨n, hn, -⟩ | hcase := channel_kinds c
  · have hperm : permitOf (s.chan c).state = true := by rw [h]; rfl
    rw [sync_of_burner hn]
    cases hp : (s.burner n).permit
    · rw [syncPermit_returns hp hperm]
      refine ⟨rfl, rfl, fun m => ?_⟩
      rw [hn, State.setBurner_burner]
      by_cases hm : m = n
      · subst hm; simp
      · simp [hm, Ne.symm hm]
    · rw [syncPermit_same (hp.trans hperm.symm)]
      refine ⟨rfl, rfl, fun m => ?_⟩
      rw [hn]
      split
      next hm => obtain rfl := Option.some.inj hm; rw [← hp]
      next => rfl
  · have he : isElectric c = true := by
      obtain rfl | ⟨h, -, -, he⟩ := hcase
      · rfl
      · exact he
    have hno : channelBurner c = none := by cases c <;> simp_all [isElectric, channelBurner]
    obtain ⟨hbsv, hntq⟩ := sync_electric_keeps he s
    exact ⟨hntq, by rw [hbsv], fun n => by rw [hno, if_neg (by simp)]; unfold State.burner; rw [hbsv]⟩

theorem syncs_empty_bsv (cs : List Channel) {s : State} (h : ∀ c, (s.chan c).state = .empty) :
    (syncs cs s).ntq = s.ntq ∧ (syncs cs s).bsv = { s.bsv with burners := (syncs cs s).bsv.burners } ∧
      ∀ n, (syncs cs s).burner n =
        if burnerChannel n ∈ cs then { s.burner n with permit := true } else s.burner n := by
  induction cs generalizing s with
  | nil => exact ⟨rfl, rfl, fun n => by simp [syncs]⟩
  | cons c cs ih =>
    obtain ⟨hntq, hbsv, hburner⟩ := sync_empty_bsv (h c)
    obtain ⟨hntq', hbsv', hburner'⟩ := ih (s := sync c s) (fun d => by rw [sync_state]; exact h d)
    rw [syncs_cons]
    refine ⟨hntq'.trans hntq, by rw [hbsv', hbsv], fun n => ?_⟩
    rw [hburner', hburner]
    by_cases hc : burnerChannel n = c <;> by_cases hcs : burnerChannel n ∈ cs <;> simp [hc, hcs]

theorem syncs_silences {cs : List Channel} (hcs : cs.Nodup) {s : State}
    (h : ∀ c, (s.chan c).state = .empty) : Silences (· ∈ cs) s (syncs cs s) := by
  refine (Silences.foldl (p := fun _ _ => True) (ready := fun _ r => r.state = .empty)
    (f := fun t c => sync c t) (fun t c ht => (sync_silences (by simp [ht])).of_iff (by simp)) hcs
    (fun c _ => h c)).of_iff (by simp)

/-! ## The burners -/

theorem stopBurner_burner (n m : Burner) (s : State) :
    (stopBurner n s).burner m =
      if m = n ∧ (s.burner n).state ≠ .off then atRest (s.burner n) .waitClose else s.burner m := by
  unfold stopBurner
  by_cases hoff : (s.burner n).state = .off
  · simp [hoff]
  · rw [if_neg hoff, shutBurner_eq, State.setBurner_burner]
    by_cases hm : m = n
    · rw [if_pos hm, if_pos ⟨hm, hoff⟩]
    · rw [if_neg hm, if_neg fun h => hm h.1]; rfl

/-- What a burner that stops leaves of the queue and of the generator. -/
theorem stopBurner_bsv (n : Burner) (s : State) :
    (stopBurner n s).bsv =
      if (s.burner n).state = .off then s.bsv
      else { left n s.bsv with burners := (stopBurner n s).bsv.burners } := by
  unfold stopBurner
  split
  · rfl
  · rw [shutBurner_eq]; rfl

/-- STOP ALL at some burners, one after another. -/
def stopSome (l : List Burner) (s : State) : State := l.foldl (fun t n => stopBurner n t) s

theorem stopSome_cons (n : Burner) (l : List Burner) (s : State) :
    stopSome (n :: l) s = stopSome l (stopBurner n s) := rfl

/-- Stopping a burner leaves the others as they were. -/
theorem stopBurner_burner_of_mem {n m : Burner} {l : List Burner} (hn : n ∉ l) (hm : m ∈ l) (s : State) :
    (stopBurner n s).burner m = s.burner m := by
  rw [stopBurner_burner, if_neg]
  rintro ⟨rfl, -⟩
  exact hn hm

theorem stopSome_burner {l : List Burner} (hl : l.Nodup) (m : Burner) (s : State) :
    (stopSome l s).burner m =
      if m ∈ l ∧ (s.burner m).state ≠ .off then atRest (s.burner m) .waitClose else s.burner m := by
  induction l generalizing s with
  | nil => simp [stopSome]
  | cons n l ih =>
    obtain ⟨hnot, hnodup⟩ := List.nodup_cons.1 hl
    rw [stopSome_cons, ih hnodup]
    by_cases hm : m = n
    · subst hm; simp [hnot, stopBurner_burner]
    · have hsame : (stopBurner n s).burner m = s.burner m := by
        rw [stopBurner_burner, if_neg fun h => hm h.1]
      simp [hm, hsame]

theorem stopBurner_queue (n : Burner) (s : State) :
    (stopBurner n s).bsv.queue =
      s.bsv.queue.filter (fun m => decide (m ≠ n ∨ (s.burner n).state = .off)) := by
  rw [stopBurner_bsv]
  by_cases hoff : (s.burner n).state = .off <;> simp [hoff, left]

theorem stopSome_queue {l : List Burner} (hl : l.Nodup) (s : State) :
    (stopSome l s).bsv.queue =
      s.bsv.queue.filter (fun m => decide (m ∉ l ∨ (s.burner m).state = .off)) := by
  induction l generalizing s with
  | nil => simp [stopSome]
  | cons n l ih =>
    obtain ⟨hnot, hnodup⟩ := List.nodup_cons.1 hl
    rw [stopSome_cons, ih hnodup, stopBurner_queue, List.filter_filter]
    refine List.filter_congr fun m _ => ?_
    rw [← Bool.decide_and]
    refine decide_eq_decide.2 ?_
    by_cases hm : m = n
    · subst hm; simp [hnot]
    · have hsame : (stopBurner n s).burner m = s.burner m := by
        rw [stopBurner_burner, if_neg fun h => hm h.1]
      simp [hm, hsame]

/-- A generator that no burner owns stays as it is. -/
theorem stopSome_unowned {l : List Burner} {s : State} (h : s.bsv.owner = none) :
    (stopSome l s).bsv.owner = none ∧ (stopSome l s).bsv.rest = s.bsv.rest ∧
      (stopSome l s).bsv.hold = s.bsv.hold := by
  induction l generalizing s with
  | nil => exact ⟨h, rfl, rfl⟩
  | cons n l ih =>
    have hstep : (stopBurner n s).bsv.owner = none ∧ (stopBurner n s).bsv.rest = s.bsv.rest ∧
        (stopBurner n s).bsv.hold = s.bsv.hold := by
      rw [stopBurner_bsv]; split <;> simp [left, h]
    obtain ⟨howner, hrest, hhold⟩ := ih (s := stopBurner n s) hstep.1
    rw [stopSome_cons]
    exact ⟨howner, hrest.trans hstep.2.1, hhold.trans hstep.2.2⟩

/-- A burner that owns the generator and stops releases it. -/
theorem stopSome_owner {l : List Burner} {n : Burner} (hn : n ∈ l) {s : State}
    (h : s.bsv.owner = some n) (hoff : (s.burner n).state ≠ .off) :
    (stopSome l s).bsv.owner = none ∧ (stopSome l s).bsv.rest = some 500 ∧
      (stopSome l s).bsv.hold = .tail 300 := by
  induction l generalizing s with
  | nil => exact absurd hn (by simp)
  | cons m l ih =>
    rw [stopSome_cons]
    by_cases hm : n = m
    · subst hm
      have hbsv := stopBurner_bsv n s
      rw [if_neg hoff] at hbsv
      have hstep : (stopBurner n s).bsv.owner = none ∧ (stopBurner n s).bsv.rest = some 500 ∧
          (stopBurner n s).bsv.hold = .tail 300 := by
        rw [hbsv]; simp [left, h]
      obtain ⟨howner, hrest, hhold⟩ := stopSome_unowned (l := l) hstep.1
      exact ⟨howner, hrest.trans hstep.2.1, hhold.trans hstep.2.2⟩
    · have howner : (stopBurner m s).bsv.owner = some n := by
        rw [stopBurner_bsv]; split
        · exact h
        · simp [left, h, hm]
      have hsame : (stopBurner m s).burner n = s.burner n := by
        rw [stopBurner_burner, if_neg fun h => hm h.1]
      exact ih ((List.mem_cons.1 hn).resolve_left hm) howner (by rw [hsame]; exact hoff)

/-! ## STOP ALL -/

/-- The state once STOP ALL has emptied every channel and closed the load context. -/
def allEmptied (s : State) : State := closeLoad (emptyRecords allChannels s)

theorem stopEverything_eq (s : State) :
    stopEverything s = stopSome allBurners (syncs allChannels (allEmptied s)) := rfl

theorem allEmptied_chan (s : State) (c : Channel) : (allEmptied s).chan c = blankRecord (s.chan c) := by
  have hc : c ∈ allChannels := by cases c <;> decide
  exact (emptyRecords_chan (by decide) s c).trans (if_pos hc)

theorem allEmptied_pst (s : State) :
    (allEmptied s).pst = { free := s.pst.free + ownedRecords s, load := none } := by
  show ({ (emptyRecords allChannels s).pst with load := none } : Pst) = _
  rw [emptyRecords_pst (by decide)]; rfl

/-- Channels other than OV change no more of OVR than the cooling fan. -/
theorem syncs_fanless {cs : List Channel} (hov : Channel.ov ∉ cs) (s : State) :
    fanless (syncs cs s).ovr = fanless s.ovr := by
  induction cs generalizing s with
  | nil => rfl
  | cons c cs ih =>
    rw [syncs_cons, ih fun h => hov (List.mem_cons_of_mem c h),
      sync_fanless fun h => hov (h ▸ List.mem_cons_self)]

/-- OVR after the end of the event at every emptied channel (R82, R95, R96). -/
theorem syncs_empty_unhanded {s : State} (h : (s.chan .ov).state = .empty) :
    unhanded (syncs allChannels s).ovr = unhanded { s.ovr with
      context := .none, active := ⟨false, false, false⟩, fanMark := false, boostEndPending := false
      ovenFan := false, lamp := decide (s.ovr.doorState = .opened) } := by
  have horder : allChannels = [.b1, .b2, .b3, .b4, .z1, .z2] ++ .ov :: [.gr] := rfl
  have hsplit : syncs allChannels s =
      syncs [.gr] (sync .ov (syncs [.b1, .b2, .b3, .b4, .z1, .z2] s)) := by
    rw [horder, syncs, List.foldl_append, List.foldl_cons]; rfl
  have hbefore := unhanded_of_fanless (syncs_fanless (cs := [.b1, .b2, .b3, .b4, .z1, .z2])
    (by decide) s)
  have hchan := syncs_chan (cs := [.b1, .b2, .b3, .b4, .z1, .z2]) (by decide) s .ov
  rw [if_neg (by decide)] at hchan
  rw [hsplit]
  generalize syncs [.b1, .b2, .b3, .b4, .z1, .z2] s = t at hbefore hchan
  have hst : (t.chan .ov).state = .empty := by rw [hchan, h]
  have htaken : ovenTaken t = noBake .none t := if_pos (.inl hst)
  obtain ⟨x, y, z, hovr⟩ : ∃ x y z, t.ovr =
      { s.ovr with handed := x, coolingFan := y, fanJustOff := z } :=
    ⟨_, _, _, eq_of_unhanded hbefore⟩
  have hovr' : (noBake .none t).ovr = { t.ovr with
      context := .none, active := ⟨false, false, false⟩, fanMark := false
      boostEndPending := false } := rfl
  rw [unhanded_of_fanless (syncs_fanless (by decide) _), sync_oven_unhanded (by simp [hst]), htaken,
    hovr', hovr]
  rfl

/-- The broadcast frame is placed, and decided at once (R162). -/
theorem stopAll_broadcast (tag : Byte) {s : State} (hs : free s) :
    exec (.stopAll true tag) s =
      .next (decideRequest ⟨.broadcast, 0x20, tag, []⟩ (heard s)).state := by
  rw [exec_eq_arrive s rfl]
  exact congrArg _ ((arrive_broadcast_eq_place s).trans (place_free _ _ hs))

theorem stopAll_unit (tag : Byte) {s : State} (hs : free s) (hp : s.cfg.part ≠ .locked) :
    exec (.stopAll false tag) s =
      .next (accepts ⟨.unit, 0x20, tag, []⟩ [] (stopEverything (heard s))) := by
  rw [exec_passed (k := .stopAll) rfl (by simp) hs rfl rfl (.inl hp) (fun _ => rfl) (fun _ => rfl)]
  exact congrArg _ (answer_accepted _ _ _)

/-- In LOCKED the broadcast request is refused, and nobody is answered. -/
theorem stopAll_locked (tag : Byte) {s : State} (hp : s.cfg.part = .locked) :
    (decideRequest ⟨.broadcast, 0x20, tag, []⟩ s).state = s := by
  have hkind : reqKindOf (0x20 : Byte).toNat = some .stopAll := rfl
  have hcheck : genericCheck 0x20 [] s = .error (.locked, 0) := by
    unfold genericCheck
    simp only [hkind]
    rw [if_neg (by decide), if_pos ⟨hp, by decide⟩]
  unfold decideRequest
  simp only [hcheck]
  rfl

theorem allEmptied_empty (s : State) (c : Channel) : ((allEmptied s).chan c).state = .empty := by
  rw [allEmptied_chan]; rfl

theorem stopEverything_chan (s : State) (c : Channel) :
    (stopEverything s).chan c =
      { blankRecord (s.chan c) with
        level := if (hobHeater c).isSome then 0 else (s.chan c).level } := by
  have hc : c ∈ allChannels := by cases c <;> decide
  have hburners : (stopEverything s).chan c = (syncs allChannels (allEmptied s)).chan c :=
    (stopBurners_frame _).2.2.2.2.2.2.2.2.2.2.2.2.1 c
  rw [hburners, syncs_chan (by decide), if_pos hc, allEmptied_chan]
  cases hobHeater c <;> rfl

theorem stopEverything_silences (s : State) : Silences (fun _ => True) s (stopEverything s) := by
  obtain ⟨hcfg, hcursor, hpfs, hout, hovr, -, -⟩ := emptyRecords_keeps allChannels s
  have hall (c : Channel) : c ∈ allChannels := by cases c <;> decide
  have hsyncs : Silences (fun _ => True) s (syncs allChannels (allEmptied s)) :=
    ((syncs_silences (cs := allChannels) (by decide) (allEmptied_empty s)).of_iff
      (q := fun _ => True) (by simpa using hall)).of_start hcfg hcursor hpfs hout hovr
      (fun c => by rw [allEmptied_chan]; rfl) (fun c h => absurd trivial h)
  have hburners : Silences (fun _ => False) (syncs allChannels (allEmptied s)) (stopEverything s) := by
    rw [stopEverything_eq]
    show Silences _ _ (stopBurners _)
    exact .of_drops (.of_same (by simp) (by simp) (by simp) (by simp) (by simp) (by simp) (by simp))
      (fun _ => id) (by simp) (by simp) (by simp)
  exact (hsyncs.trans hburners (fun _ _ => id)).of_iff (by simp)

theorem stopEverything_pst (s : State) :
    (stopEverything s).pst = { free := s.pst.free + ownedRecords s, load := none } := by
  have hburners : (stopEverything s).pst = (syncs allChannels (allEmptied s)).pst :=
    (stopBurners_frame _).2.2.2.1
  have hsyncs : (syncs allChannels (allEmptied s)).pst = (allEmptied s).pst :=
    foldl_keeps (g := State.pst) (fun t c => by simp) _ _
  rw [hburners, hsyncs, allEmptied_pst]

/-- The state once the end of the event has followed at every emptied channel, as the burners see it. -/
theorem syncs_allEmptied_bsv (s : State) :
    (syncs allChannels (allEmptied s)).ntq = s.ntq ∧
    (syncs allChannels (allEmptied s)).bsv =
      { s.bsv with burners := (syncs allChannels (allEmptied s)).bsv.burners } ∧
    ∀ n, (syncs allChannels (allEmptied s)).burner n = { s.burner n with permit := true } := by
  obtain ⟨-, -, -, -, -, hbsv, hntq⟩ := emptyRecords_keeps allChannels s
  have hbsv' : (allEmptied s).bsv = s.bsv := hbsv
  have hburner (n : Burner) : (allEmptied s).burner n = s.burner n := by
    unfold State.burner; rw [hbsv']
  have hall (n : Burner) : burnerChannel n ∈ allChannels := by cases n <;> decide
  obtain ⟨hn, hb, hburners⟩ := syncs_empty_bsv allChannels (allEmptied_empty s)
  exact ⟨hn.trans hntq, by rw [hb, hbsv'], fun n => by rw [hburners, if_pos (hall n), hburner]⟩

theorem stopEverything_burner (s : State) (n : Burner) :
    (stopEverything s).burner n =
      if (s.burner n).state = .off then { s.burner n with permit := true }
      else { atRest (s.burner n) .waitClose with permit := true } := by
  have hn : n ∈ allBurners := by cases n <;> decide
  rw [stopEverything_eq, stopSome_burner (by decide), (syncs_allEmptied_bsv s).2.2 n]
  by_cases hoff : (s.burner n).state = .off
  · rw [if_pos hoff, if_neg fun h => h.2 hoff]
  · rw [if_neg hoff, if_pos ⟨hn, hoff⟩]; rfl

theorem stopEverything_queue (s : State) :
    (stopEverything s).bsv.queue = s.bsv.queue.filter (fun n => decide ((s.burner n).state = .off)) := by
  obtain ⟨-, hbsv, hburner⟩ := syncs_allEmptied_bsv s
  have hall (n : Burner) : n ∈ allBurners := by cases n <;> decide
  rw [stopEverything_eq, stopSome_queue (by decide), hbsv]
  refine List.filter_congr fun n _ => decide_eq_decide.2 ?_
  rw [hburner n]
  simp [hall n]

theorem stopEverything_owner {s : State} {n : Burner} (h : s.bsv.owner = some n)
    (hoff : (s.burner n).state ≠ .off) :
    (stopEverything s).bsv.owner = none ∧ (stopEverything s).bsv.rest = some 500 ∧
      (stopEverything s).bsv.hold = .tail 300 := by
  obtain ⟨-, hbsv, hburner⟩ := syncs_allEmptied_bsv s
  have hn : n ∈ allBurners := by cases n <;> decide
  rw [stopEverything_eq]
  exact stopSome_owner hn (by rw [hbsv]; exact h) (by rw [hburner]; exact hoff)

theorem stopEverything_unowned {s : State} (h : s.bsv.owner = none) :
    (stopEverything s).bsv.owner = none ∧ (stopEverything s).bsv.rest = s.bsv.rest ∧
      (stopEverything s).bsv.hold = s.bsv.hold := by
  obtain ⟨-, hbsv, -⟩ := syncs_allEmptied_bsv s
  have hfields := stopSome_unowned (l := allBurners) (s := syncs allChannels (allEmptied s))
    (by rw [hbsv]; exact h)
  have hrest : (syncs allChannels (allEmptied s)).bsv.rest = s.bsv.rest := by rw [hbsv]
  have hhold : (syncs allChannels (allEmptied s)).bsv.hold = s.bsv.hold := by rw [hbsv]
  rwa [hrest, hhold, ← stopEverything_eq] at hfields

theorem stopEverything_ovr (s : State) :
    (stopEverything s).ovr = { s.ovr with
      context := .none, active := ⟨false, false, false⟩, fanMark := false, boostEndPending := false
      ovenFan := false, lamp := decide (s.ovr.doorState = .opened)
      handed := (stopEverything s).ovr.handed, coolingFan := (stopEverything s).ovr.coolingFan
      fanJustOff := (stopEverything s).ovr.fanJustOff } := by
  have hburners : (stopEverything s).ovr = (syncs allChannels (allEmptied s)).ovr :=
    (stopBurners_frame _).2.2.2.2.2.2.1
  have hovr : (allEmptied s).ovr = s.ovr := (emptyRecords_keeps allChannels s).2.2.2.2.1
  have hsyncs := syncs_empty_unhanded (allEmptied_empty s .ov)
  rw [← hburners, hovr] at hsyncs
  exact eq_of_unhanded hsyncs

/-- Settles O24: the channels by stopEverything_chan, what is dropped by stopEverything_silences, the
burners by stopSome. -/
theorem stopAllEmptiesEverything : Obligations.StopAllEmptiesEverything := by
  intro tag s hs
  refine ⟨fun hp => ?_, fun hp => ⟨stopEverything (heard s), ?_, stopAll_unit tag hs hp,
    stopEverything_chan (heard s), stopEverything_pst (heard s), stopEverything_burner (heard s),
    stopEverything_queue (heard s), fun n => stopEverything_owner (s := heard s),
    stopEverything_unowned (s := heard s), ?_, stopEverything_ovr (heard s), ?_⟩⟩
  · rw [stopAll_broadcast tag hs, stopAll_locked tag (s := heard s) hp]
  · have hdecided : decideRequest ⟨.broadcast, 0x20, tag, []⟩ (heard s) = ownStopAll (heard s) :=
      decide_passed (k := .stopAll) rfl rfl (.inl hp) (fun _ => rfl) (fun _ => rfl)
    rw [stopAll_broadcast tag hs, hdecided, ownStopAll, accepted]
  · exact ((stopEverything_silences (heard s)).of_start (s := s) rfl rfl rfl rfl rfl (fun _ => rfl)
      (fun _ _ => rfl)).demandsDropped
  · have hntq : (stopEverything (heard s)).ntq = (heard s).ntq :=
      ((stopBurners_frame _).2.2.2.2.2.2.2.2.1).trans (syncs_allEmptied_bsv (heard s)).1
    exact eq_of_drops (stopEverything_silences (heard s)).toDrops (by simp) (by simp) hntq (by simp)
      (by simp)

end Sys2Proof.Proofs
end

section
/-! An open element (R133, R68, R83, R84, R23). -/

namespace Sys2Proof.Proofs

open Sys2Proof Sys2Proof.Machine Sys2Proof.Claims Sys2Proof.Safety

/-! ## The drop of a heater that is commanded on -/

section

variable {h : Heater} {s : State}

/-- A heater commanded on is placed in the current slot, so its frame demand is not 0. -/
theorem frame_pos_of_relay (inv : PowerInv s) (hr : (s.heater h).relay = true) :
    0 < (s.heater h).frame := by
  obtain ⟨-, -, hplaced, -⟩ := inv.relay h hr
  refine Nat.pos_of_ne_zero fun hzero => ?_
  rw [inv.unplaced h hzero] at hplaced
  simp [noSlots, Vector.get_eq_getElem] at hplaced

/-- The heater's records once its command has gone off with its demand held. -/
def heldOff (h : Heater) (cause : HoldCause) (s : State) : State :=
  (s.setHeater h { s.heater h with
      hold := cause, requested := 0, frame := 0, placed := noSlots, granted := 0
      relay := false }).setHeaterOut h
    { s.heaterOut h with drive := false, check := .settling 200, run := 0 }

theorem setHeater_setHeater (s : State) (h : Heater) (a b : HeaterFrame) :
    (s.setHeater h a).setHeater h b = s.setHeater h b := by
  simp [State.setHeater, State.withPfs]

theorem setHeaterOut_setHeaterOut (s : State) (h : Heater) (a b : HeaterOut) :
    (s.setHeaterOut h a).setHeaterOut h b = s.setHeaterOut h b := by
  simp [State.setHeaterOut, State.withOut]

theorem handCommand_off_eq {r : HeaterFrame} (hi : (s.install h).installed = true) :
    handCommand h false (s.setHeater h r) =
      (s.setHeater h { r with relay := false }).setHeaterOut h
        { s.heaterOut h with drive := false, check := .settling 200, run := 0 } := by
  unfold handCommand settle
  simp [setHeater_setHeater, setHeaterOut_setHeaterOut, hi]

/-- A hold of a heater that is commanded on drops it at once. -/
theorem holdHeater_on (inv : PowerInv s) (hr : (s.heater h).relay = true) (cause : HoldCause) :
    holdHeater h cause s =
      if feedsCoolingFan h then evalCoolingFan (heldOff h cause s) else heldOff h cause s := by
  obtain ⟨-, hinstalled, hplaced, hhold⟩ := inv.relay h hr
  have hframe := frame_pos_of_relay inv hr
  unfold holdHeater
  rw [if_neg (by simp [hhold])]
  dsimp only
  rw [if_pos hframe]
  unfold dropHeater
  simp only [State.setHeater_heater_self, State.setHeater_pfs_slot, hplaced, if_true]
  unfold relayOff
  simp only [State.setHeater_heater_self, hr, if_true, setHeater_setHeater, handCommand_off_eq hinstalled]
  rfl

/-- The heater's records once it has been dropped and marked FAILED. -/
def failedOff (h : Heater) (s : State) : State :=
  (s.setHeater h { s.heater h with
      hold := .failed, requested := 0, frame := 0, placed := noSlots, granted := 0
      relay := false }).setHeaterOut h
    { s.heaterOut h with drive := false, failed := true, check := .settling 200, run := 0 }

theorem heldOff_failed (h : Heater) (s : State) :
    (heldOff h .failed s).setHeaterOut h { (heldOff h .failed s).heaterOut h with failed := true } =
      failedOff h s := by
  unfold heldOff failedOff
  rw [setHeaterOut_setHeaterOut, State.setHeaterOut_heaterOut_self]

/-- The state once an open element has been marked, with its notice. -/
def elementFailed (h : Heater) (s : State) : State :=
  raise { kind := .heater, subject := heaterCode h, detail1 := 1, detail2 := 0 }
    (if feedsCoolingFan h then evalCoolingFan (failedOff h s) else failedOff h s)

theorem markFailed_eq (inv : PowerInv s) (hr : (s.heater h).relay = true) :
    raise (heaterNotice h 1 0) ((holdHeater h .failed s).setHeaterOut h
      { (holdHeater h .failed s).heaterOut h with failed := true }) = elementFailed h s := by
  rw [holdHeater_on inv hr]
  unfold elementFailed
  rw [← heldOff_failed]
  split <;> rfl

theorem elementFailed_chan (h : Heater) (s : State) (c : Channel) :
    (elementFailed h s).chan c = s.chan c := by
  unfold elementFailed
  split <;> simp <;> rfl

theorem elementFailed_bake (h : Heater) (s : State) :
    (elementFailed h s).ovr.context = s.ovr.context ∧
      (elementFailed h s).ovr.source = s.ovr.source ∧ (elementFailed h s).ovr.mode = s.ovr.mode := by
  unfold elementFailed
  split <;> simp [failedOff, evalCoolingFan]

theorem elementFailed_hold (h : Heater) (s : State) : ((elementFailed h s).heater h).hold = .failed := by
  unfold elementFailed
  split <;> simp [failedOff]

/-- The demand of a held heater does not change (R68). -/
theorem demandChange_held {d : Nat} (hh : (s.heater h).hold ≠ .none) : demandChange h d s = s :=
  if_pos hh

/-- OVR records the demand of a held heater without PFS (R68, R86). -/
theorem handZero_held {o : OvenHeater} (hh : (s.heater (ovenHeaterAsHeater o)).hold ≠ .none) :
    handDemand o 0 s = s.withOvr { s.ovr with handed := s.ovr.handed.set o 0 } := by
  unfold handDemand
  split
  next hz =>
    have hset : s.ovr.handed.set o 0 = s.ovr.handed := by rw [← hz]; cases o <;> rfl
    rw [hset]; rfl
  next => exact demandChange_held hh

/-! ## The report of an open element -/

theorem findFailed_hob {c : Channel} (hc : hobHeater c = some h) (inv : PowerInv s)
    (hr : (s.heater h).relay = true) :
    findFailed h s = reportFault c .element (elementFailed h s) := by
  rw [← markFailed_eq inv hr]
  cases c <;> cases hc <;> rfl

/-- OVR takes a failed oven heater out of its active set (R83, R84). -/
def elementLeaves (t : State) : State :=
  if t.ovr.context = .bake then
    (if emptyByFailure (formSet t) then reportFault .ov .element (formSet t) else formSet t)
  else t

theorem findFailed_oven {o : OvenHeater} (ho : asOvenHeater h = some o) (inv : PowerInv s)
    (hr : (s.heater h).relay = true) :
    findFailed h s = elementLeaves (handDemand o 0 (elementFailed h s)) := by
  rw [← markFailed_eq inv hr]
  cases h <;> cases ho <;> rfl

/-- A channel with a level that is halted hands level 0 of a heater that is held. -/
theorem reportFault_hob {c : Channel} (hc : hobHeater c = some h) (hh : (s.heater h).hold ≠ .none)
    (hst : (s.chan c).state = .running) :
    reportFault c .element s =
      raise { kind := .channelHalted, subject := channelCode c, detail1 := 1
              detail2 := (s.chan c).stageIndex }
        (s.setChan c { halted (s.chan c) .element with level := 0 }) := by
  unfold reportFault
  rw [if_pos ((faultReaches_iff _ _ _).2 (.inl ⟨by decide, hst⟩)), haltChannel_eq]
  rw [sync_hob_idle hc (by simp [halted])]
  have hrec (n : Notice) : (raise n (s.setChan c (halted (s.chan c) .element))).chan c =
      halted (s.chan c) .element := by simp
  rw [hrec, demandChange_held (by simpa using hh), ← raise_setChan, setChan_setChan]
  split
  next hl =>
    have hzero : ({ halted (s.chan c) .element with level := 0 } : ChannelRec) =
        halted (s.chan c) .element := by rw [← hl]
    rw [hzero]; rfl
  next => rfl

theorem reportFault_hob_idle {c : Channel} (hc : hobHeater c = some h)
    (hst : (s.chan c).state ≠ .running) : reportFault c .element s = s := by
  refine if_neg fun hf => ?_
  have hov := hob_ne_ov hc
  simp [faultReaches_iff, hst, hov] at hf

theorem exec_openElement (also : List Heater) (hd : disagrees s h = true)
    (hclosed : s.out.contactor = .closed) (hr : (s.heater h).relay = true) :
    exec (.persistenceRunExpiry h also) s = .next (findFailed h s) := by
  show execPersistenceRunExpiry h also s = _
  unfold execPersistenceRunExpiry runReached
  rw [if_pos hd, hclosed]
  simp only [hr, if_true]

theorem asOvenHeater_iff {o : OvenHeater} : asOvenHeater h = some o ↔ h = ovenHeaterAsHeater o := by
  cases h <;> cases o <;> simp [asOvenHeater, ovenHeaterAsHeater]

/-- The failed heater leaves the active set, and OV is halted when that empties it by failure. -/
theorem elementLeaves_cases {t : State} {source : ElementSource} {mode : Mode}
    (hsource : t.ovr.source = source) (hmode : t.ovr.mode = mode) :
    let x := t.withOvr { t.ovr with
      active := activeSet t source mode, fanMark := rowFan source mode }
    let fails := failedSet t source mode ∧
      ((t.chan .ov).state = .running ∨ (t.chan .ov).state = .paused)
    (t.ovr.context ≠ .bake → elementLeaves t = t) ∧
    (t.ovr.context = .bake → ¬ fails → elementLeaves t = x) ∧
    (t.ovr.context = .bake → fails → elementLeaves t = sync .ov (haltChannel .ov .element x)) := by
  subst hsource hmode
  intro x fails
  have hset : formSet t = x := formSet_eq t
  have hfailed : emptyByFailure x = true ↔ failedSet t t.ovr.source t.ovr.mode := emptyByFailure_iff x
  have hreach : faultReaches .element .ov (x.chan .ov).state = true ↔
      (t.chan .ov).state = .running ∨ (t.chan .ov).state = .paused := by
    rw [faultReaches_iff]; simp [x]
  unfold elementLeaves
  refine ⟨fun h => if_neg h, fun h hn => ?_, fun h hf => ?_⟩ <;> rw [if_pos h, hset]
  · by_cases he : emptyByFailure x = true
    · rw [if_pos he, reportFault, if_neg fun hr => hn ⟨hfailed.1 he, hreach.1 hr⟩]
    · rw [if_neg he]
  · rw [if_pos (hfailed.2 hf.1), reportFault, if_pos (hreach.2 hf.2)]

end

/-- Settles O49: the drop by elementFailed, then the report by the kind of heater. -/
theorem openElementIsFailed : Obligations.OpenElementIsFailed := by
  intro h also s inv hd hclosed hr off v becomes
  have hv : elementFailed h s = v := rfl
  have hhold : (v.heater h).hold ≠ .none := by rw [← hv, elementFailed_hold]; decide
  have hchan (c : Channel) : v.chan c = s.chan c := hv ▸ elementFailed_chan h s c
  have hbecomes {t : State} (ht : findFailed h s = t) : becomes t :=
    ht ▸ exec_openElement also hd hclosed hr
  refine ⟨fun c hc => ⟨fun hst => hbecomes ?_, fun hst => hbecomes ?_⟩, fun o ho => ?_⟩
  · rw [findFailed_hob hc inv hr, hv, reportFault_hob hc hhold (by rw [hchan]; exact hst), hchan]
  · rw [findFailed_hob hc inv hr, hv, reportFault_hob_idle hc (by rw [hchan]; exact hst)]
  · obtain rfl := asOvenHeater_iff.1 ho
    intro w x fails
    have hw : handDemand o 0 v = w := handZero_held hhold
    obtain ⟨hcontext, hsource, hmode⟩ := elementFailed_bake (ovenHeaterAsHeater o) s
    have hwcontext : w.ovr.context = s.ovr.context := hcontext
    have hwchan : w.chan .ov = s.chan .ov := hchan .ov
    have hxchan : x.chan .ov = s.chan .ov := hwchan
    obtain ⟨hnobake, hkeeps, hfails⟩ := elementLeaves_cases (t := w) hsource hmode
    rw [hwcontext] at hnobake hkeeps hfails
    rw [hwchan] at hkeeps hfails
    have hfind : findFailed (ovenHeaterAsHeater o) s = elementLeaves w := by
      rw [findFailed_oven ho inv hr, hv, hw]
    refine ⟨fun hc => hbecomes ?_, fun hc hn => hbecomes ?_, fun hc hf => hbecomes ?_⟩
    · rw [hfind, hnobake hc]
    · rw [hfind, hkeeps hc hn]
    · rw [hfind, hfails hc hf, haltChannel_eq, ← hxchan]; rfl

end Sys2Proof.Proofs
end

section
/-! A welded relay (R135, R137, R68, R23). -/

namespace Sys2Proof.Proofs

open Sys2Proof Sys2Proof.Machine Sys2Proof.Claims Sys2Proof.Safety

/-! ## Notices raised one after another -/

/-- From s to t the notices of a list are raised, one after another. -/
structure Raises (ns : List Notice) (s t : State) : Prop where
  ntq : t.ntq = (ns.foldl (fun u n => raise n u) s).ntq
  cfg : t.cfg = s.cfg

theorem foldl_raise_cfg (ns : List Notice) (s : State) :
    (ns.foldl (fun u n => raise n u) s).cfg = s.cfg :=
  foldl_keeps (g := State.cfg) (fun _ _ => (raise_frame _ _).2.2.1) ns s

theorem foldl_raise_ntq_congr (ns : List Notice) {s t : State} (hn : t.ntq = s.ntq)
    (hc : t.cfg = s.cfg) :
    (ns.foldl (fun u n => raise n u) t).ntq = (ns.foldl (fun u n => raise n u) s).ntq := by
  induction ns generalizing s t with
  | nil => exact hn
  | cons n ns ih => exact ih (raise_ntq_congr n hn (by rw [hc])) (by simp [hc])

/-- Notices for which the queue has room stand at its end. -/
theorem foldl_raise_queue (ns : List Notice) {s : State} (hf : s.ntq.frozen = false)
    (hl : s.ntq.queue.length + ns.length ≤ 16) :
    (ns.foldl (fun u n => raise n u) s).ntq.queue = s.ntq.queue ++ ns := by
  induction ns generalizing s with
  | nil => simp
  | cons n ns ih =>
    rw [List.length_cons] at hl
    have hraise : (raise n s).ntq.queue = s.ntq.queue ++ [n] ∧ (raise n s).ntq.frozen = false := by
      have hlt : s.ntq.queue.length < 16 := by omega
      unfold raise assertionCheck
      rw [if_neg (by simp [hf]), if_pos hlt]
      split <;> simp [hf]
    obtain ⟨hqueue, hfrozen⟩ := hraise
    have hroom : (raise n s).ntq.queue.length + ns.length ≤ 16 := by
      simp only [hqueue, List.length_append, List.length_singleton]; omega
    rw [List.foldl_cons, ih hfrozen hroom, hqueue, List.append_assoc, List.singleton_append]

namespace Raises

theorem of_same {s t : State} (hn : t.ntq = s.ntq) (hc : t.cfg = s.cfg) : Raises [] s t := ⟨hn, hc⟩

theorem one (n : Notice) (s : State) : Raises [n] s (raise n s) := ⟨rfl, (raise_frame _ _).2.2.1⟩

theorem trans {ms ns : List Notice} {s t u : State} (h1 : Raises ms s t) (h2 : Raises ns t u) :
    Raises (ms ++ ns) s u where
  ntq := by
    rw [h2.ntq, List.foldl_append]
    exact foldl_raise_ntq_congr ns h1.ntq (h1.cfg.trans (foldl_raise_cfg ms s).symm)
  cfg := h2.cfg.trans h1.cfg

/-- A step that raises nothing. -/
theorem keep {ns : List Notice} {s t u : State} (h : Raises ns s t) (hn : u.ntq = t.ntq)
    (hc : u.cfg = t.cfg) : Raises ns s u := ⟨hn.trans h.ntq, hc.trans h.cfg⟩

theorem foldl {α : Type} {f : State → α → State} {n : α → Notice}
    (hf : ∀ t a, Raises [n a] t (f t a)) (l : List α) (s : State) :
    Raises (l.map n) s (l.foldl f s) := by
  induction l generalizing s with
  | nil => exact of_same rfl rfl
  | cons a l ih => exact (hf s a).trans (ih _)

/-- Notices at each of some channels, by that channel's record, which the steps at the others keep. -/
theorem foldl_chan {f : State → Channel → State} {n : Channel → ChannelRec → List Notice}
    (hk : ∀ t c d, d ≠ c → (f t c).chan d = t.chan d) {cs : List Channel} (hcs : cs.Nodup)
    (hf : ∀ c ∈ cs, ∀ t, Raises (n c (t.chan c)) t (f t c)) (s : State) :
    Raises (cs.flatMap fun c => n c (s.chan c)) s (cs.foldl f s) := by
  induction cs generalizing s with
  | nil => exact of_same rfl rfl
  | cons c cs ih =>
    obtain ⟨hnot, hnodup⟩ := List.nodup_cons.1 hcs
    have hsame : (cs.flatMap fun d => n d ((f s c).chan d)) = cs.flatMap fun d => n d (s.chan d) :=
      List.flatMap_congr fun d hd => by rw [hk s c d (by rintro rfl; exact hnot hd)]
    rw [List.foldl_cons, List.flatMap_cons, ← hsame]
    exact (hf c List.mem_cons_self s).trans
      (ih hnodup (fun d hd => hf d (List.mem_cons_of_mem c hd)) _)

end Raises

/-! ## The marks -/

/-- The WELDED marks of some heaters, each with the moment's detail. -/
def weldsMarked (h : Heater) (further : List Heater) (s : State) : State :=
  further.foldl (fun t g => markWelded 1 g t) (markWelded 0 h s)

theorem mem_allHeaters (h : Heater) : h ∈ allHeaters := by cases h <;> decide

theorem nodup_allHeaters : allHeaters.Nodup := by decide

theorem markWelded_heaterOut (d : Nat) (h g : Heater) (s : State) :
    (markWelded d h s).heaterOut g =
      if g = h then { s.heaterOut h with welded := true } else s.heaterOut g := by
  simp [markWelded, State.setHeaterOut_heaterOut]

theorem markWelded_raises (d : Nat) (h : Heater) (s : State) :
    Raises [heaterNotice h 2 d] s (markWelded d h s) := by
  have hmark : Raises [] s (s.setHeaterOut h { s.heaterOut h with welded := true }) :=
    .of_same rfl rfl
  exact hmark.trans (.one (heaterNotice h 2 d) _)

theorem markWelded_out (d : Nat) (h : Heater) (s : State) :
    (markWelded d h s).out = { s.out with heaters := (markWelded d h s).out.heaters } := by
  simp [markWelded, State.setHeaterOut, State.withOut]

section

variable {h : Heater} {further : List Heater} {s : State}

theorem weldsMarked_raises (h : Heater) (further : List Heater) (s : State) :
    Raises ([heaterNotice h 2 0] ++ further.map fun g => heaterNotice g 2 1) s
      (weldsMarked h further s) :=
  (markWelded_raises 0 h s).trans (.foldl (fun t g => markWelded_raises 1 g t) further _)

theorem weldsMarked_keeps (h : Heater) (further : List Heater) (s : State) :
    (weldsMarked h further s).pins = s.pins ∧ (weldsMarked h further s).lnk = s.lnk ∧
      (weldsMarked h further s).cfg = s.cfg ∧ (weldsMarked h further s).pst = s.pst ∧
      (weldsMarked h further s).plr = s.plr ∧ (weldsMarked h further s).pfs = s.pfs ∧
      (weldsMarked h further s).ovr = s.ovr ∧ (weldsMarked h further s).bsv = s.bsv ∧
      (weldsMarked h further s).drawn = s.drawn ∧ (weldsMarked h further s).pending = s.pending := by
  have keeps {β : Type} (p : State → β) (hp : ∀ d g t, p (markWelded d g t) = p t) :
      p (weldsMarked h further s) = p s := (foldl_keeps (fun t g => hp 1 g t) _ _).trans (hp 0 h s)
  refine ⟨keeps State.pins ?_, keeps State.lnk ?_, keeps State.cfg ?_, keeps State.pst ?_,
    keeps State.plr ?_, keeps State.pfs ?_, keeps State.ovr ?_, keeps State.bsv ?_,
    keeps State.drawn ?_, keeps State.pending ?_⟩ <;> simp

theorem foldl_out {α : Type} {f : State → α → State}
    (hf : ∀ t a, (f t a).out = { t.out with heaters := (f t a).out.heaters }) (l : List α)
    (s : State) : (l.foldl f s).out = { s.out with heaters := (l.foldl f s).out.heaters } := by
  induction l generalizing s with
  | nil => rfl
  | cons a l ih => rw [List.foldl_cons, ih, hf]

theorem weldsMarked_out (h : Heater) (further : List Heater) (s : State) :
    (weldsMarked h further s).out =
      { s.out with heaters := (weldsMarked h further s).out.heaters } := by
  unfold weldsMarked
  rw [foldl_out (fun t g => markWelded_out 1 g t), markWelded_out]

theorem weldsMarked_heaterOut (hf : further.Nodup) (g : Heater) :
    (weldsMarked h further s).heaterOut g = { s.heaterOut g with
      welded := (s.heaterOut g).welded || decide (g = h) || further.contains g } := by
  unfold weldsMarked
  rw [foldl_pointwise (read := State.heaterOut) (g := fun _ r => { r with welded := true })
    (ready := fun _ => True) (fun _ _ _ => trivial)
    (fun t g k _ => markWelded_heaterOut 1 g k t) hf trivial, markWelded_heaterOut]
  by_cases hg : g = h <;> by_cases hm : g ∈ further <;> simp [hg, hm]

end

/-! ## The hold of every installed heater -/

/-- The scheduler's record of a heater held on supply-off (R68, R62). -/
def supplyHeld (slot : Fin 32) (r : HeaterFrame) : HeaterFrame :=
  if r.hold ≠ .none then r
  else if 0 < r.frame then
    { r with hold := .supplyOff, requested := 0, frame := 0, placed := noSlots, granted := 0
             relay := r.relay && !r.placed.get slot }
  else { r with hold := .supplyOff, requested := 0 }

theorem holdHeater_heater (h g : Heater) (s : State) :
    (holdHeater h .supplyOff s).heater g =
      if g = h then supplyHeld s.pfs.slot (s.heater h) else s.heater g := by
  unfold holdHeater supplyHeld
  dsimp only
  split
  · split
    next hg => rw [hg]
    next => rfl
  · split
    · rw [dropHeater_heater]
      by_cases hg : g = h <;> simp [hg, State.setHeater_heater_of_ne]
    · exact State.setHeater_heater _ _ _ _

theorem holdSupply_drops (s : State) : Drops s (holdSupply s) :=
  Drops.foldl (fun t h => holdHeater_drops h .supplyOff t) _ s

theorem holdSupply_fanless (s : State) : fanless (holdSupply s).ovr = fanless s.ovr :=
  foldl_keeps (g := fun t : State => fanless t.ovr) (fun t h => holdHeater_fanless h .supplyOff t) _ s

theorem holdSupply_heater (g : Heater) (s : State) :
    (holdSupply s).heater g =
      if (s.install g).installed = true then supplyHeld s.pfs.slot (s.heater g) else s.heater g := by
  unfold holdSupply
  rw [foldl_pointwise (read := State.heater) (g := fun _ => supplyHeld s.pfs.slot)
    (ready := fun t => t.pfs.slot = s.pfs.slot)
    (fun t h ht => (holdHeater_drops h .supplyOff t).slot.trans ht)
    (fun t h k ht => ht ▸ holdHeater_heater h k t) (nodup_allHeaters.filter _) rfl]
  simp [List.mem_filter, mem_allHeaters]

/-- A held heater whose frame demand is 0 has no placement, and one commanded on has one. -/
theorem supplyHeld_eq {s : State} (inv : PowerInv s) (h : Heater) :
    supplyHeld s.pfs.slot (s.heater h) = { s.heater h with
      hold := if (s.heater h).hold = .none then .supplyOff else (s.heater h).hold
      requested := if (s.heater h).hold = .none then 0 else (s.heater h).requested
      frame := 0, placed := noSlots
      granted := if 0 < (s.heater h).frame then 0 else (s.heater h).granted
      relay := false } := by
  have hrelay := inv.relay h
  have hframe := frame_pos_of_relay (h := h) inv
  have hheld := inv.held h
  have hunplaced := inv.unplaced h
  generalize s.heater h = r at *
  obtain ⟨requested, frame, placed, granted, starve, promoted, late, hold, relay⟩ := r
  dsimp only at *
  unfold supplyHeld
  dsimp only
  by_cases hh : hold = .none
  · by_cases hf : 0 < frame
    · cases relay <;> simp_all
    · cases relay <;> simp_all
  · cases relay <;> simp_all

/-! ## Settling -/

theorem settleAll_heaterOut (g : Heater) (s : State) :
    (settleAll s).heaterOut g =
      if (s.install g).installed = true then { s.heaterOut g with check := .settling 200, run := 0 }
      else s.heaterOut g := by
  unfold settleAll
  rw [foldl_pointwise (read := State.heaterOut)
    (g := fun h r => if (s.install h).installed = true then { r with check := .settling 200, run := 0 }
      else r)
    (ready := fun t => ∀ h, t.install h = s.install h)
    (fun t h ht k => by rw [← ht]; simp)
    (fun t h k ht => by rw [settle_heaterOut, ht]; by_cases hk : k = h <;> simp [hk]) nodup_allHeaters
    fun _ => rfl]
  exact if_pos (mem_allHeaters g)

theorem settleAll_out (s : State) :
    (settleAll s).out = { s.out with heaters := (settleAll s).out.heaters } :=
  foldl_out (fun t h => settle_out h t) _ s

/-! ## The report to the electric channels -/

/-- The record of a channel that a weld has halted. -/
def supplyHalted (c : Channel) (r : ChannelRec) : ChannelRec :=
  { halted r .supply with level := if (hobHeater c).isSome then 0 else r.level }

theorem reportSupply_reached {c : Channel} {s : State}
    (h : faultReaches .supply c (s.chan c).state = true) :
    reportFault c .supply s = sync c (haltChannel c .supply s) := if_pos h

theorem reportSupply_other {c : Channel} {s : State}
    (h : ¬ faultReaches .supply c (s.chan c).state = true) : reportFault c .supply s = s := if_neg h

theorem haltChannel_chan (c d : Channel) (cause : HaltCause) (s : State) :
    (haltChannel c cause s).chan d = if d = c then halted (s.chan c) cause else s.chan d := by
  rw [haltChannel_eq, (raise_frame _ _).2.2.2.2.2.2.2.2.2.2.2.2.1, State.setChan_chan]

theorem reportSupply_chan (s : State) (c d : Channel) :
    (reportFault c .supply s).chan d =
      if d = c then
        (if faultReaches .supply c (s.chan c).state = true then supplyHalted c (s.chan c) else s.chan c)
      else s.chan d := by
  by_cases h : faultReaches .supply c (s.chan c).state = true
  · rw [reportSupply_reached h, sync_chan, if_pos h, haltChannel_chan, haltChannel_chan]
    by_cases hd : d = c
    · subst hd
      cases hhob : (hobHeater d).isSome <;> simp [supplyHalted, hhob, channelLevel, halted]
    · simp [hd]
  · rw [reportSupply_other h, if_neg h]
    split
    next hd => rw [hd]
    next => rfl

theorem haltChannel_idle (c : Channel) (cause : HaltCause) (s : State) :
    ((haltChannel c cause s).chan c).state ≠ .running := by
  simp [haltChannel_chan, halted]

theorem reportSupply_silences (s : State) (c : Channel) :
    Silences (fun d => d = c ∧ faultReaches .supply c (s.chan c).state = true) s
      (reportFault c .supply s) := by
  by_cases h : faultReaches .supply c (s.chan c).state = true
  · rw [reportSupply_reached h]
    refine ((sync_silences (haltChannel_idle c .supply s)).of_start (by simp)
      (by simp [haltChannel]) (by simp) (by simp) (by simp) (fun d => ?_) fun d hd => ?_).of_iff fun d => ?_
    · rw [haltChannel_chan]; split
      next hd => rw [hd]; rfl
      next => rfl
    · rw [haltChannel_chan, if_neg hd]
    · simp [h]
  · rw [reportSupply_other h]
    exact .of_drops (.refl s) (fun d hd => h hd.2) (fun _ => rfl) rfl fun _ => rfl

theorem reportSupply_raises {c : Channel} (hc : isElectric c = true) (s : State) :
    Raises (if faultReaches .supply c (s.chan c).state = true then
        [haltedNotice c .supply (s.chan c).stageIndex] else []) s (reportFault c .supply s) := by
  by_cases h : faultReaches .supply c (s.chan c).state = true
  · rw [reportSupply_reached h, if_pos h]
    have hhalt : Raises [] s (s.setChan c (halted (s.chan c) .supply)) := .of_same rfl rfl
    exact (hhalt.trans (.one (haltedNotice c .supply (s.chan c).stageIndex) _)).keep
      (sync_electric_keeps hc _).2 (by simp [haltChannel_eq, haltedNotice])
  · rw [reportSupply_other h, if_neg h]
    exact .of_same rfl rfl

theorem reportSupply_bsv {c : Channel} (hc : isElectric c = true) (s : State) :
    (reportFault c .supply s).bsv = s.bsv := by
  by_cases h : faultReaches .supply c (s.chan c).state = true
  · rw [reportSupply_reached h, (sync_electric_keeps hc _).1]; simp
  · rw [reportSupply_other h]

theorem reportSupply_fanless {c : Channel} (hc : c ≠ .ov) (s : State) :
    fanless (reportFault c .supply s).ovr = fanless s.ovr := by
  by_cases h : faultReaches .supply c (s.chan c).state = true
  · rw [reportSupply_reached h, sync_fanless hc]; simp
  · rw [reportSupply_other h]

theorem reportSupply_oven {s : State} (h : faultReaches .supply .ov (s.chan .ov).state = true) :
    unhanded (reportFault .ov .supply s).ovr = unhanded { s.ovr with
      ovenFan := false, lamp := decide (s.ovr.doorState = .opened) } := by
  have hhalt : ((haltChannel .ov .supply s).chan .ov).state = .halted := by
    rw [haltChannel_chan, if_pos rfl]; rfl
  have htaken : ovenTaken (haltChannel .ov .supply s) = haltChannel .ov .supply s :=
    if_neg (by simp [hhalt])
  rw [reportSupply_reached h, sync_oven_unhanded (by simp [hhalt]), htaken]
  simp

/-- The electric channels after the report of a weld. -/
@[irreducible] def supplyReported (s : State) : State :=
  [Channel.z1, .z2, .ov, .gr].foldl (fun t c => reportFault c .supply t) s

theorem supplyReported_chan (s : State) (d : Channel) :
    (supplyReported s).chan d =
      if isElectric d = true ∧ faultReaches .supply d (s.chan d).state = true then
        supplyHalted d (s.chan d)
      else s.chan d := by
  unfold supplyReported
  rw [foldl_chan (g := fun c r => if faultReaches .supply c r.state = true then supplyHalted c r else r)
    reportSupply_chan (by decide)]
  simp only [mem_electric]
  by_cases he : isElectric d = true <;> simp [he]

theorem supplyReported_silences (s : State) :
    Silences (fun c => isElectric c = true ∧ faultReaches .supply c (s.chan c).state = true) s
      (supplyReported s) := by
  unfold supplyReported
  refine (Silences.foldl (p := fun c r => faultReaches .supply c r.state = true)
    (ready := fun _ _ => True) (fun t c _ => reportSupply_silences t c) (by decide)
    (fun _ _ => trivial)).of_iff fun c => ?_
  rw [mem_electric]

theorem supplyReported_raises (s : State) :
    Raises ([Channel.z1, .z2, .ov, .gr].flatMap fun c =>
      if faultReaches .supply c (s.chan c).state = true then
        [haltedNotice c .supply (s.chan c).stageIndex]
      else []) s (supplyReported s) := by
  unfold supplyReported
  exact Raises.foldl_chan (f := fun t c => reportFault c .supply t)
    (n := fun c r => if faultReaches .supply c r.state = true then
      [haltedNotice c .supply r.stageIndex] else [])
    (fun t c d hd => by rw [reportSupply_chan, if_neg hd]) (by decide)
    (fun c hc t => reportSupply_raises ((mem_electric c).1 hc) t) s

theorem supplyReported_keeps (s : State) :
    (supplyReported s).pins = s.pins ∧ (supplyReported s).lnk = s.lnk ∧
      (supplyReported s).pst = s.pst ∧ (supplyReported s).bsv = s.bsv ∧
      (supplyReported s).drawn = s.drawn ∧ (supplyReported s).pending = s.pending := by
  have hz1 := reportSupply_bsv (c := .z1) rfl
  have hz2 := reportSupply_bsv (c := .z2) rfl
  have hov := reportSupply_bsv (c := .ov) rfl
  have hgr := reportSupply_bsv (c := .gr) rfl
  simp [supplyReported, hz1, hz2, hov, hgr]

/-- OVR after the report: the outputs of an OV that has been halted. -/
theorem supplyReported_unhanded (s : State) :
    unhanded (supplyReported s).ovr = unhanded
      (if faultReaches .supply .ov (s.chan .ov).state = true then
        { s.ovr with ovenFan := false, lamp := decide (s.ovr.doorState = .opened) }
      else s.ovr) := by
  have hbefore : unhanded (reportFault .z2 .supply (reportFault .z1 .supply s)).ovr =
      unhanded s.ovr :=
    unhanded_of_fanless ((reportSupply_fanless (by decide) _).trans (reportSupply_fanless (by decide) _))
  have hchan : (reportFault .z2 .supply (reportFault .z1 .supply s)).chan .ov = s.chan .ov := by
    rw [reportSupply_chan, if_neg (by decide), reportSupply_chan, if_neg (by decide)]
  have hafter : unhanded (supplyReported s).ovr = unhanded
      (reportFault .ov .supply (reportFault .z2 .supply (reportFault .z1 .supply s))).ovr := by
    unfold supplyReported
    exact unhanded_of_fanless (reportSupply_fanless (by decide) _)
  rw [hafter]
  by_cases h : faultReaches .supply .ov (s.chan .ov).state = true
  · rw [if_pos h, reportSupply_oven (by rw [hchan]; exact h), doorState_of_unhanded hbefore]
    exact unhanded_outputs hbefore _ _
  · rw [if_neg h, reportSupply_other (by rw [hchan]; exact h), hbefore]

/-! ## What a silenced channel leaves of a heater -/

theorem heater_kinds (g : Heater) :
    (∃ c, hobHeater c = some g) ∨ ∃ o, g = ovenHeaterAsHeater o := by
  cases g
  case hz1 => exact .inl ⟨.z1, rfl⟩
  case hz2 => exact .inl ⟨.z2, rfl⟩
  case hgrill => exact .inl ⟨.gr, rfl⟩
  case htop => exact .inr ⟨.top, rfl⟩
  case hbase => exact .inr ⟨.base, rfl⟩
  case hring => exact .inr ⟨.ring, rfl⟩

/-- A heater that is held stays as it is. -/
theorem Silences.heater_held {p : Channel → Prop} {s t : State} (h : Silences p s t) {g : Heater}
    (hheld : (s.heater g).hold ≠ .none) : t.heater g = s.heater g := by
  have hdropped : dropped s g = s.heater g := if_pos (.inl hheld)
  obtain ⟨c, hc⟩ | ⟨o, rfl⟩ := heater_kinds g
  · obtain ⟨drop, keep⟩ := h.hob c g hc
    by_cases hp : p c ∧ (s.chan c).level ≠ 0
    · rw [drop hp.1 hp.2, hdropped]
    · exact keep (by rwa [not_and_or, not_not] at hp)
  · obtain ⟨drop, keep⟩ := h.oven o
    by_cases hp : p .ov ∧ o ∈ ovenRankOrder s ∧ s.ovr.handed.get o ≠ 0
    · rw [(drop hp.1 hp.2.1).2 hp.2.2, hdropped]
    · exact (keep (by rwa [not_and_or, not_and_or, not_not] at hp)).2

/-- A heater that is not installed stays as it is when no channel has a level for it. -/
theorem Silences.heater_uninstalled {p : Channel → Prop} {s t : State} (h : Silences p s t)
    {g : Heater} (hi : (s.install g).installed = false)
    (hlevel : ∀ c, hobHeater c = some g → (s.chan c).level = 0) : t.heater g = s.heater g := by
  obtain ⟨c, hc⟩ | ⟨o, rfl⟩ := heater_kinds g
  · exact (h.hob c g hc).2 (.inr (hlevel c hc))
  · exact ((h.oven o).2 (.inr (.inl (by simp [mem_ovenRankOrder, hi])))).2

end Sys2Proof.Proofs
end

section
/-! A welded relay, step by step (R135, R137). -/

namespace Sys2Proof.Proofs

open Sys2Proof Sys2Proof.Machine Sys2Proof.Claims Sys2Proof.Safety

section

variable {h : Heater} {further : List Heater} {s : State}

/-! ## The marks and the supply-off flag -/

/-- The marks and the supply-off flag (R135 step 1). -/
def supplyCut (h : Heater) (further : List Heater) (s : State) : State :=
  (weldsMarked h further s).withOut { (weldsMarked h further s).out with supplyOff := true }

theorem supplyCut_keeps (h : Heater) (further : List Heater) (s : State) :
    (supplyCut h further s).pins = s.pins ∧ (supplyCut h further s).lnk = s.lnk ∧
      (supplyCut h further s).cfg = s.cfg ∧ (supplyCut h further s).pst = s.pst ∧
      (supplyCut h further s).plr = s.plr ∧ (supplyCut h further s).pfs = s.pfs ∧
      (supplyCut h further s).ovr = s.ovr ∧ (supplyCut h further s).bsv = s.bsv ∧
      (supplyCut h further s).drawn = s.drawn ∧ (supplyCut h further s).pending = s.pending :=
  weldsMarked_keeps h further s

theorem supplyCut_heater (h g : Heater) (further : List Heater) (s : State) :
    (supplyCut h further s).heater g = s.heater g := by
  obtain ⟨-, -, -, -, -, hpfs, -⟩ := supplyCut_keeps h further s
  unfold State.heater; rw [hpfs]

theorem supplyCut_install (h g : Heater) (further : List Heater) (s : State) :
    (supplyCut h further s).install g = s.install g := by
  obtain ⟨-, -, hcfg, -⟩ := supplyCut_keeps h further s
  unfold State.install; rw [hcfg]

theorem supplyCut_heaterOut (hf : further.Nodup) (g : Heater) :
    (supplyCut h further s).heaterOut g = { s.heaterOut g with
      welded := (s.heaterOut g).welded || decide (g = h) || further.contains g } :=
  weldsMarked_heaterOut hf g

/-! ## The hold, and the opening of the contactor -/

/-- The hold of the installed heaters and the opening of the contactor (R135 steps 2 and 3). -/
def weldOpened (h : Heater) (further : List Heater) (s : State) : State :=
  settleAll ((holdSupply (supplyCut h further s)).withOut
    { (holdSupply (supplyCut h further s)).out with contactor := .opened })

theorem weldOpened_keeps (h : Heater) (further : List Heater) (s : State) :
    (weldOpened h further s).pins = s.pins ∧ (weldOpened h further s).lnk = s.lnk ∧
      (weldOpened h further s).cfg = s.cfg ∧ (weldOpened h further s).pst = s.pst ∧
      (weldOpened h further s).plr = s.plr ∧ (weldOpened h further s).bsv = s.bsv ∧
      (weldOpened h further s).drawn = s.drawn ∧ (weldOpened h further s).pending = s.pending := by
  simp [weldOpened, supplyCut_keeps]

/-- What the opening leaves as the hold has left it. -/
theorem weldOpened_held (h : Heater) (further : List Heater) (s : State) :
    (weldOpened h further s).pfs = (holdSupply (supplyCut h further s)).pfs ∧
      (weldOpened h further s).ovr = (holdSupply (supplyCut h further s)).ovr ∧
      ∀ g, (weldOpened h further s).heater g = (holdSupply (supplyCut h further s)).heater g := by
  simp [weldOpened]

/-- Until the hold the commands stay, and then they fall. -/
theorem weldOpened_fall (h : Heater) (further : List Heater) (s : State) :
    CommandsFall s (weldOpened h further s) := by
  obtain ⟨-, -, -, -, -, -, hovr, -⟩ := supplyCut_keeps h further s
  obtain ⟨-, hheldOvr, hheld⟩ := weldOpened_held h further s
  have hcut : CommandsFall s (supplyCut h further s) :=
    .of_same (fun g => by rw [supplyCut_heater]) (by rw [hovr]) (by rw [hovr]) (by rw [hovr])
  have hopen : CommandsFall (holdSupply (supplyCut h further s)) (weldOpened h further s) :=
    .of_same (fun g => by rw [hheld]) (by rw [hheldOvr]) (by rw [hheldOvr]) (by rw [hheldOvr])
  exact (hcut.trans (holdSupply_drops _).toCommandsFall).trans hopen

theorem weldOpened_pfs (h : Heater) (further : List Heater) (s : State) :
    (weldOpened h further s).pfs = { s.pfs with heaters := (weldOpened h further s).pfs.heaters } := by
  obtain ⟨-, -, -, -, -, hpfs, -⟩ := supplyCut_keeps h further s
  rw [(weldOpened_held h further s).1, (holdSupply_drops _).pfs, hpfs]

theorem weldOpened_fanless (h : Heater) (further : List Heater) (s : State) :
    fanless (weldOpened h further s).ovr = fanless s.ovr := by
  obtain ⟨-, -, -, -, -, -, hovr, -⟩ := supplyCut_keeps h further s
  rw [(weldOpened_held h further s).2.1, holdSupply_fanless, hovr]

theorem weldOpened_out (h : Heater) (further : List Heater) (s : State) :
    (weldOpened h further s).out = { s.out with
      supplyOff := true, contactor := .opened, heaters := (weldOpened h further s).out.heaters } := by
  have hcut : (supplyCut h further s).out = { s.out with
      supplyOff := true, heaters := (supplyCut h further s).out.heaters } := by
    unfold supplyCut
    rw [State.withOut_out, weldsMarked_out]
  unfold weldOpened
  rw [settleAll_out, State.withOut_out, (holdSupply_drops _).out, hcut]

theorem weldOpened_raises (h : Heater) (further : List Heater) (s : State) :
    Raises ([heaterNotice h 2 0] ++ further.map fun g => heaterNotice g 2 1) s
      (weldOpened h further s) :=
  (weldsMarked_raises h further s).keep (by simp [weldOpened, supplyCut])
    (by simp [weldOpened, supplyCut])

theorem weldOpened_heater (h g : Heater) (further : List Heater) (s : State) :
    (weldOpened h further s).heater g =
      if (s.install g).installed = true then supplyHeld s.pfs.slot (s.heater g) else s.heater g := by
  obtain ⟨-, -, -, -, -, hpfs, -⟩ := supplyCut_keeps h further s
  rw [(weldOpened_held h further s).2.2, holdSupply_heater, supplyCut_heater, supplyCut_install, hpfs]

theorem weldOpened_relay (inv : PowerInv s) (h g : Heater) (further : List Heater) :
    ((weldOpened h further s).heater g).relay = false := by
  rw [weldOpened_heater]
  split
  next => rw [supplyHeld_eq inv]
  next hi =>
    refine Bool.eq_false_iff.2 fun hr => hi ?_
    obtain ⟨-, hinstalled, -⟩ := inv.relay g hr
    exact hinstalled

theorem weldOpened_hold (inv : PowerInv s) {g : Heater} (hi : (s.install g).installed = true) :
    ((weldOpened h further s).heater g).hold ≠ .none := by
  rw [weldOpened_heater, if_pos hi, supplyHeld_eq inv]
  dsimp only
  split
  next => decide
  next hh => exact hh

/-- OUT's record of a heater that has been held: its drive is low if it was commanded on. -/
theorem weldOpened_heaterOut (inv : PowerInv s) (hf : further.Nodup) (g : Heater) :
    (weldOpened h further s).heaterOut g =
      if (s.install g).installed = true then
        { s.heaterOut g with
          drive := !(s.heater g).relay && (s.heaterOut g).drive
          check := .settling 200, run := 0
          welded := (s.heaterOut g).welded || decide (g = h) || further.contains g }
      else { s.heaterOut g with
        welded := (s.heaterOut g).welded || decide (g = h) || further.contains g } := by
  have hoff := weldOpened_relay inv h g further
  rw [(weldOpened_held h further s).2.2] at hoff
  have hheld : (holdSupply (supplyCut h further s)).heaterOut g =
      handed (s.install g).installed (s.heater g).relay false ((supplyCut h further s).heaterOut g) := by
    rw [(holdSupply_drops _).outs, hoff, supplyCut_heater, supplyCut_install]
  have hrelay := inv.relay g
  unfold weldOpened
  rw [settleAll_heaterOut, State.withOut_install, (holdSupply_drops _).install, supplyCut_install]
  have hsame : (State.withOut (holdSupply (supplyCut h further s))
      { (holdSupply (supplyCut h further s)).out with contactor := .opened }).heaterOut g =
      (holdSupply (supplyCut h further s)).heaterOut g := rfl
  rw [hsame, hheld, supplyCut_heaterOut hf]
  cases hr : (s.heater g).relay <;> cases hi : (s.install g).installed <;> simp_all [handed]

/-! ## The report and the check -/

/-- The notice of the cut and the report to the channels (R135 steps 4 and 5). -/
def weldReported (h : Heater) (further : List Heater) (s : State) : State :=
  supplyReported (raise supplyOffNotice (weldOpened h further s))

/-- All that a first weld does. -/
def welded (h : Heater) (further : List Heater) (s : State) : State :=
  settleAll ((weldReported h further s).withOut
    { (weldReported h further s).out with check := true, proving := some 2200 })

/-- A channel that the report of a weld reaches. -/
def weldReaches (s : State) (c : Channel) : Bool :=
  isElectric c && (decide ((s.chan c).state = .running) ||
    decide ((s.chan c).state = .paused) || decide ((s.chan c).state = .ready))

theorem weldReaches_iff (s : State) (c : Channel) :
    weldReaches s c = true ↔ isElectric c = true ∧ faultReaches .supply c (s.chan c).state = true := by
  unfold weldReaches
  rw [faultReaches_iff]
  simp [or_assoc]

theorem weldOpened_chan (h : Heater) (further : List Heater) (s : State) (c : Channel) :
    (weldOpened h further s).chan c = s.chan c := by
  obtain ⟨-, -, -, -, hplr, -⟩ := weldOpened_keeps h further s
  exact chan_of_plr hplr c

theorem weldReported_silences (h : Heater) (further : List Heater) (s : State) :
    Silences (fun c => weldReaches s c = true) (weldOpened h further s) (weldReported h further s) :=
  ((supplyReported_silences _).of_start (by simp) (by simp) (by simp) (by simp) (by simp)
    (fun c => by simp) (fun c _ => by simp)).of_iff fun c => by
      rw [weldReaches_iff]; simp [weldOpened_chan]

theorem weldReported_chan (h : Heater) (further : List Heater) (s : State) (c : Channel) :
    (weldReported h further s).chan c =
      if weldReaches s c then supplyHalted c (s.chan c) else s.chan c := by
  have hchan : (raise supplyOffNotice (weldOpened h further s)).chan c = s.chan c := by
    simp [weldOpened_chan]
  unfold weldReported
  simp only [supplyReported_chan, hchan, weldReaches_iff]

theorem map_filter_eq_flatMap {α β : Type} (p : α → Bool) (f : α → β) (l : List α) :
    (l.filter p).map f = l.flatMap fun a => if p a then [f a] else [] := by
  induction l with
  | nil => rfl
  | cons a l ih => cases hp : p a <;> simp [hp, ih]

/-- The notices of a weld, in the order of R135. -/
def weldNotices (h : Heater) (further : List Heater) (s : State) : List Notice :=
  [heaterNotice h 2 0] ++ further.map (fun g => heaterNotice g 2 1) ++ [supplyOffNotice] ++
    ([Channel.z1, .z2, .ov, .gr].filter (weldReaches s)).map
      (fun c => haltedNotice c .supply (s.chan c).stageIndex)

theorem weldReported_raises (h : Heater) (further : List Heater) (s : State) :
    Raises (weldNotices h further s) s (weldReported h further s) := by
  have hhalts := supplyReported_raises (raise supplyOffNotice (weldOpened h further s))
  have hlist : ([Channel.z1, .z2, .ov, .gr].flatMap fun c =>
      if faultReaches .supply c (s.chan c).state = true then
        [haltedNotice c .supply (s.chan c).stageIndex] else []) =
      ([Channel.z1, .z2, .ov, .gr].filter (weldReaches s)).map
        (fun c => haltedNotice c .supply (s.chan c).stageIndex) := by
    rw [map_filter_eq_flatMap]
    refine List.flatMap_congr fun c hc => ?_
    simp only [weldReaches_iff, (mem_electric c).1 hc, true_and]
  have hchan (c : Channel) : (raise supplyOffNotice (weldOpened h further s)).chan c = s.chan c := by
    simp [weldOpened_chan]
  simp only [hchan, hlist] at hhalts
  exact ((weldOpened_raises h further s).trans (.one supplyOffNotice _)).trans hhalts

theorem weldReported_keeps (h : Heater) (further : List Heater) (s : State) :
    (weldReported h further s).pins = s.pins ∧ (weldReported h further s).lnk = s.lnk ∧
      (weldReported h further s).pst = s.pst ∧ (weldReported h further s).bsv = s.bsv ∧
      (weldReported h further s).drawn = s.drawn ∧
      (weldReported h further s).pending = s.pending := by
  simp [weldReported, supplyReported_keeps, weldOpened_keeps]

/-! ## What a weld leaves -/

theorem welded_reported (h : Heater) (further : List Heater) (s : State) :
    (welded h further s).pfs = (weldReported h further s).pfs ∧
      (welded h further s).ovr = (weldReported h further s).ovr ∧
      (welded h further s).plr = (weldReported h further s).plr ∧
      (welded h further s).ntq = (weldReported h further s).ntq ∧
      (welded h further s).cfg = (weldReported h further s).cfg ∧
      ∀ g, (welded h further s).heater g = (weldReported h further s).heater g := by
  simp [welded]

theorem welded_fall (h : Heater) (further : List Heater) (s : State) :
    CommandsFall s (welded h further s) := by
  obtain ⟨-, hovr, -, -, -, hheater⟩ := welded_reported h further s
  have hcheck : CommandsFall (weldReported h further s) (welded h further s) :=
    .of_same (fun g => by rw [hheater]) (by rw [hovr]) (by rw [hovr]) (by rw [hovr])
  exact ((weldOpened_fall h further s).trans
    (weldReported_silences h further s).toCommandsFall).trans hcheck

theorem welded_pfs (h : Heater) (further : List Heater) (s : State) :
    (welded h further s).pfs = { s.pfs with heaters := (welded h further s).pfs.heaters } := by
  rw [(welded_reported h further s).1, (weldReported_silences h further s).pfs, weldOpened_pfs]

theorem welded_out (h : Heater) (further : List Heater) (s : State) :
    (welded h further s).out = { s.out with
      supplyOff := true, contactor := .opened, check := true, proving := some 2200
      heaters := (welded h further s).out.heaters } := by
  unfold welded
  rw [settleAll_out, State.withOut_out, (weldReported_silences h further s).out, weldOpened_out]

theorem welded_heater_installed (inv : PowerInv s) {g : Heater}
    (hi : (s.install g).installed = true) :
    (welded h further s).heater g = { s.heater g with
      hold := if (s.heater g).hold = .none then .supplyOff else (s.heater g).hold
      requested := if (s.heater g).hold = .none then 0 else (s.heater g).requested
      frame := 0, placed := noSlots
      granted := if 0 < (s.heater g).frame then 0 else (s.heater g).granted
      relay := false } := by
  obtain ⟨-, -, -, -, -, hheater⟩ := welded_reported h further s
  rw [hheater, (weldReported_silences h further s).heater_held (weldOpened_hold inv hi),
    weldOpened_heater, if_pos hi, supplyHeld_eq inv]

theorem weldOpened_install (h g : Heater) (further : List Heater) (s : State) :
    (weldOpened h further s).install g = s.install g := by
  obtain ⟨-, -, hcfg, -⟩ := weldOpened_keeps h further s
  unfold State.install; rw [hcfg]

theorem welded_heater_uninstalled {g : Heater} (hi : (s.install g).installed = false)
    (hlevel : ∀ c, hobHeater c = some g → (s.chan c).level = 0) :
    (welded h further s).heater g = s.heater g := by
  obtain ⟨-, -, -, -, -, hheater⟩ := welded_reported h further s
  rw [hheater, (weldReported_silences h further s).heater_uninstalled (by rw [weldOpened_install, hi])
    (fun c hc => by rw [weldOpened_chan]; exact hlevel c hc), weldOpened_heater, if_neg (by simp [hi])]

/-- The report hands no command, for the hold has put every command off. -/
theorem welded_heaterOut (inv : PowerInv s) (hf : further.Nodup) (g : Heater) :
    (welded h further s).heaterOut g =
      if (s.install g).installed = true then
        { s.heaterOut g with
          drive := !(s.heater g).relay && (s.heaterOut g).drive
          check := .settling 200, run := 0
          welded := (s.heaterOut g).welded || decide (g = h) || further.contains g }
      else { s.heaterOut g with
        welded := (s.heaterOut g).welded || decide (g = h) || further.contains g } := by
  have hsilences := weldReported_silences h further s
  have hoff := weldOpened_relay inv h g further
  have hstill : ((weldReported h further s).heater g).relay = false :=
    Bool.eq_false_iff.2 fun hr => by simp [hsilences.off g hr] at hoff
  have hreported : (weldReported h further s).heaterOut g = (weldOpened h further s).heaterOut g := by
    rw [hsilences.outs, hoff, hstill, handed_same]
  have hsame : (State.withOut (weldReported h further s)
      { (weldReported h further s).out with check := true, proving := some 2200 }).heaterOut g =
      (weldReported h further s).heaterOut g := rfl
  unfold welded
  rw [settleAll_heaterOut, State.withOut_install, hsilences.install, weldOpened_install, hsame,
    hreported, weldOpened_heaterOut inv hf]
  split <;> rfl

theorem welded_chan (h : Heater) (further : List Heater) (s : State) (c : Channel) :
    (welded h further s).chan c = if weldReaches s c then supplyHalted c (s.chan c) else s.chan c := by
  obtain ⟨-, -, hplr, -⟩ := welded_reported h further s
  rw [chan_of_plr hplr, weldReported_chan]

theorem welded_unhanded (h : Heater) (further : List Heater) (s : State) :
    unhanded (welded h further s).ovr = unhanded { s.ovr with
      ovenFan := if weldReaches s .ov then false else s.ovr.ovenFan
      lamp := if weldReaches s .ov then decide (s.ovr.doorState = .opened) else s.ovr.lamp } := by
  have hbefore : unhanded (raise supplyOffNotice (weldOpened h further s)).ovr = unhanded s.ovr := by
    rw [(raise_frame _ _).2.2.2.2.2.2.1]
    exact unhanded_of_fanless (weldOpened_fanless h further s)
  have hchan : (raise supplyOffNotice (weldOpened h further s)).chan .ov = s.chan .ov := by
    simp [weldOpened_chan]
  have hreach : weldReaches s .ov = true ↔ faultReaches .supply .ov (s.chan .ov).state = true := by
    simp [weldReaches_iff, isElectric]
  rw [(welded_reported h further s).2.1, weldReported, supplyReported_unhanded, hchan]
  simp only [hreach]
  split
  · have hlamp : decide ((raise supplyOffNotice (weldOpened h further s)).ovr.doorState = .opened) =
        decide (s.ovr.doorState = .opened) := by rw [doorState_of_unhanded hbefore]
    rw [hlamp]
    exact unhanded_outputs hbefore _ _
  · exact hbefore

theorem welded_handed (inv : PowerInv s) (h : Heater) (further : List Heater) (o : OvenHeater) :
    (welded h further s).ovr.handed.get o =
      if weldReaches s .ov ∧ (s.install (ovenHeaterAsHeater o)).installed then 0
      else s.ovr.handed.get o := by
  have hbefore := handed_of_fanless (weldOpened_fanless h further s)
  obtain ⟨drop, keep⟩ := (weldReported_silences h further s).oven o
  rw [(welded_reported h further s).2.1]
  simp only [mem_ovenRankOrder, weldOpened_install, inv.ranks, and_true, hbefore] at drop keep
  split
  next hr => exact (drop hr.1 hr.2).1
  next hr =>
    rw [not_and_or] at hr
    exact (keep (hr.imp_right .inl)).1

theorem welded_eq (h : Heater) (further : List Heater) (s : State) :
    welded h further s = { s with
      plr := { s.plr with chans := (welded h further s).plr.chans }
      pfs := (welded h further s).pfs, ovr := (welded h further s).ovr
      out := (welded h further s).out, ntq := (welded h further s).ntq } := by
  obtain ⟨hpins, hlnk, hpst, hbsv, hdrawn, hpending⟩ :
      (welded h further s).pins = s.pins ∧ (welded h further s).lnk = s.lnk ∧
        (welded h further s).pst = s.pst ∧ (welded h further s).bsv = s.bsv ∧
        (welded h further s).drawn = s.drawn ∧ (welded h further s).pending = s.pending := by
    simp [welded, weldReported_keeps]
  obtain ⟨-, -, hplr, -, hcfg, -⟩ := welded_reported h further s
  have hcfg : (welded h further s).cfg = s.cfg := hcfg.trans (weldReported_raises h further s).cfg
  have hcursor : (welded h further s).plr.cursor = s.plr.cursor := by
    rw [hplr, (weldReported_silences h further s).cursor, (weldOpened_keeps h further s).2.2.2.2.1]
  have hchans : (welded h further s).plr =
      { s.plr with chans := (welded h further s).plr.chans } := by
    dsimp only; rw [← hcursor]
  rw [← hchans, ← hpins, ← hlnk, ← hpst, ← hbsv, ← hdrawn, ← hpending, ← hcfg]

end

/-! ## The obligation -/

/-- The heaters found WELDED at the same moment as h. -/
def furtherWelds (h : Heater) (also : List Heater) (s : State) : List Heater :=
  allHeaters.filter (fun g => also.contains g && decide (g ≠ h) && disagrees s g && !(s.heater g).relay)

theorem exec_weld {h : Heater} (also : List Heater) {s : State} (hd : disagrees s h = true)
    (hclosed : s.out.contactor = .closed) (hr : (s.heater h).relay = false) :
    exec (.persistenceRunExpiry h also) s = .next (welded h (furtherWelds h also s) s) := by
  have hfurther : allHeaters.filter (fun g => also.contains g && decide (g ≠ h) && weldDue s g) =
      furtherWelds h also s :=
    List.filter_congr fun g _ => by simp [weldDue, hclosed, Bool.and_assoc]
  show execPersistenceRunExpiry h also s = _
  unfold execPersistenceRunExpiry runReached
  rw [if_pos hd, hclosed]
  simp only [hr, findWelded, hfurther, welded, weldReported, supplyReported, weldOpened, supplyCut,
    weldsMarked, Bool.false_eq_true, if_false]

/-- Only an installed heater is watched (R129). -/
theorem installed_of_disagrees {s : State} {g : Heater} (hd : disagrees s g = true) :
    (s.install g).installed = true := by
  cases hi : (s.install g).installed
  · simp [disagrees, expectedSense, hi] at hd
  · rfl

/-- Settles O50: every part of the state that welded leaves. -/
theorem weldOpensTheContactor : Obligations.WeldOpensTheContactor := by
  intro h also s inv hd hclosed hr further reached notices
  have hraises : Raises notices s (weldReported h further s) := weldReported_raises h further s
  have hntq : (welded h further s).ntq = (notices.foldl (fun u n => raise n u) s).ntq :=
    (welded_reported h further s).2.2.2.1.trans hraises.ntq
  have hnodup : further.Nodup := nodup_allHeaters.filter _
  refine ⟨welded h further s, exec_weld also hd hclosed hr, welded_out h further s,
    fun g hi => ⟨welded_heater_installed inv hi, (welded_heaterOut inv hnodup g).trans (if_pos hi)⟩,
    fun g hi => ⟨?_, welded_heater_uninstalled hi⟩, welded_chan h further s,
    eq_of_unhanded (welded_unhanded h further s), welded_handed inv h further,
    (welded_fall h further s).fan, hntq, fun hfrozen hroom => ?_, welded_pfs h further s,
    welded_eq h further s⟩
  · have hne : ¬ g = h := by
      rintro rfl
      simp [installed_of_disagrees hd] at hi
    have hnot : further.contains g = false := by
      refine Bool.eq_false_iff.2 fun hmem => ?_
      have hdis : disagrees s g = true := by
        have := List.of_mem_filter (List.contains_iff_mem.1 hmem)
        simp_all
      simp [installed_of_disagrees hdis] at hi
    rw [welded_heaterOut inv hnodup, if_neg (by simp [hi]), hnot]
    simp [hne]
  · rw [hntq, foldl_raise_queue notices hfrozen hroom]

end Sys2Proof.Proofs
end

section
/-! The times of the stages (R43): what keeps each remaining time within its stage's duration, and each
duration within 86,399 s. An entry writes both at once, a second only lowers the remaining time, and ADJUST
TIME moves both together. -/

namespace Sys2Proof.Proofs

open Sys2Proof Sys2Proof.Machine Sys2Proof.Claims Sys2Proof.Safety

/-! ## One channel record -/

/-- The pool records of a plan of which one has been changed. -/
theorem modifyRecord_getElem? {r : ChannelRec} {i j : Nat} {f : PoolRecord → PoolRecord} {q : PoolRecord}
    (h : (r.modifyRecord i f).plan[j]? = some q) :
    ∃ p, r.plan[j]? = some p ∧ q = if i = j then f p else p := by
  simp only [ChannelRec.modifyRecord, List.getElem?_modify, Option.map_eq_map,
    Option.map_eq_some_iff] at h
  obtain ⟨p, hp, rfl⟩ := h
  exact ⟨p, hp, rfl⟩

/-- What R43 asks of one channel record. -/
structure TimesFit (r : ChannelRec) : Prop where
  fits : remainingFits r
  bound : ∀ p ∈ r.plan, p.spec.duration ≤ 86399

namespace TimesFit

variable {r q : ChannelRec}

/-- Only the plan, the stage index and the remaining time matter. -/
theorem of_same (h : TimesFit r) (hp : q.plan = r.plan) (hi : q.stageIndex = r.stageIndex)
    (hr : q.remaining = r.remaining) : TimesFit q where
  fits := by unfold remainingFits ChannelRec.current; rw [hp, hi, hr]; exact h.fits
  bound := by rw [hp]; exact h.bound

/-- A change of one pool record that keeps its duration. -/
theorem modify (h : TimesFit r) (i : Nat) {f : PoolRecord → PoolRecord}
    (hf : ∀ p, (f p).spec.duration = p.spec.duration) : TimesFit (r.modifyRecord i f) where
  fits p hp n hn := by
    obtain ⟨q, hq, rfl⟩ := modifyRecord_getElem? hp
    have hfit := h.fits q hq n hn
    split
    · rw [hf]; exact hfit
    · exact hfit
  bound p hp := by
    obtain ⟨j, hj⟩ := List.getElem?_of_mem hp
    obtain ⟨q, hq, rfl⟩ := modifyRecord_getElem? hj
    have hbound := h.bound q (List.mem_of_getElem? hq)
    split
    · rw [hf]; exact hbound
    · exact hbound

/-- The remaining time goes down. -/
theorem countDown (h : TimesFit r) {n m : Nat} (hr : r.remaining = .timed n) (hm : m ≤ n) :
    TimesFit { r with remaining := .timed m } where
  fits p hp k hk := by cases hk; exact hm.trans (h.fits p hp n hr)
  bound := h.bound

/-- No time is left of a stage. -/
theorem elapsed (h : TimesFit r) : TimesFit { r with remaining := .timed 0 } where
  fits _ _ k hk := by cases hk; exact Nat.zero_le _
  bound := h.bound

/-- A record whose remaining time is the duration of its current stage. -/
theorem of_started (hb : ∀ p ∈ r.plan, p.spec.duration ≤ 86399)
    (hr : ∀ p ∈ r.current, r.remaining = remainingOf p.spec.duration) : TimesFit r where
  fits p hp n hn := by
    rw [hr p hp, remainingOf] at hn
    split at hn
    · cases hn
    · cases hn; exact le_rfl
  bound := hb

/-- A plan that is over has no current stage (R35). -/
theorem done (h : TimesFit r) (cause : PlanEnd) : TimesFit (Claims.done r cause) :=
  of_started h.bound fun p hp => by simp [Claims.done, ChannelRec.current] at hp

/-- The entry of a stage (R31). -/
theorem entered (h : TimesFit r) {i : Nat} {p : PoolRecord} (hp : r.plan[i]? = some p) :
    TimesFit (Claims.entered r i p.spec) :=
  have hmarked := h.modify i (f := fun q => { q with mark := .current, targetReached := false })
    fun _ => rfl
  of_started hmarked.bound fun q hq => by
    simp only [Claims.entered, ChannelRec.current, List.getElem?_modify, hp, Option.mem_def] at hq
    cases hq
    rfl

/-- An emptied channel (R7). -/
theorem blank (level : Nat) : TimesFit { ChannelRec.reset with level := level } :=
  of_started (by simp [ChannelRec.reset]) (by simp [ChannelRec.reset, ChannelRec.current])

/-- A new plan (R14, R22). -/
theorem ready {plan : List PoolRecord} (h : ∀ p ∈ plan, p.spec.duration ≤ 86399) (level : Nat) :
    TimesFit (readyRecord plan level) :=
  of_started h fun p hp => by
    have hhead : plan.head? = some p := by rw [List.head?_eq_getElem?]; exact hp
    simp [readyRecord, hhead]

end TimesFit

/-! ## ADJUST TIME -/

/-- ADJUST TIME never takes a duration above 86,399 s (R43, R44). -/
theorem adjustDelta_le (r : ChannelRec) (p : StageSpec) (n : Nat) (d : Int) :
    adjustDelta r p n d ≤ 86399 - p.duration := by
  unfold adjustDelta effectiveDelta
  split <;> dsimp only <;> omega

/-- A stage whose duration has moved by e seconds. -/
def lengthened (e : Int) (p : PoolRecord) : PoolRecord :=
  { p with spec := { p.spec with duration := (p.spec.duration + e).toNat } }

/-- The remaining time and the duration of the current stage move together. -/
theorem TimesFit.moved {r : ChannelRec} (h : TimesFit r) {p : PoolRecord} (hp : p ∈ r.current)
    {n : Nat} (hn : r.remaining = .timed n) {e : Int} (he : e ≤ 86399 - p.spec.duration) :
    TimesFit { r.modifyRecord r.stageIndex (lengthened e) with remaining := .timed (n + e).toNat } := by
  have honly {o : PoolRecord} (ho : r.plan[r.stageIndex]? = some o) : o = p :=
    Option.some.inj (ho.symm.trans hp)
  constructor
  · intro q hq m hm
    obtain ⟨o, ho, rfl⟩ := modifyRecord_getElem? hq
    obtain rfl := honly ho
    cases hm
    have hfit := h.fits o hp n hn
    show (n + e).toNat ≤ (if r.stageIndex = r.stageIndex then lengthened e o else o).spec.duration
    rw [if_pos rfl, lengthened]
    dsimp only
    omega
  · intro q hq
    obtain ⟨j, hj⟩ := List.getElem?_of_mem hq
    obtain ⟨o, ho, rfl⟩ := modifyRecord_getElem? hj
    split
    next hji =>
      obtain rfl := honly (hji ▸ ho)
      simp only [lengthened]
      omega
    next => exact h.bound o (List.mem_of_getElem? ho)

end Sys2Proof.Proofs
end

section
/-! The times of the stages (R43): the operations on channels and the events. -/

namespace Sys2Proof.Proofs

open Sys2Proof Sys2Proof.Machine Sys2Proof.Claims Sys2Proof.Safety

/-! ## The state -/

theorem timeInv_iff (s : State) : TimeInv s ↔
    (∀ c, TimesFit (s.chan c)) ∧ ∀ l ∈ s.pst.load, ∀ p ∈ l.staged, p.duration ≤ 86399 :=
  ⟨fun h => ⟨fun c => ⟨h.fits c, h.plans c⟩, h.staged⟩,
    fun h => ⟨fun c => (h.1 c).fits, fun c => (h.1 c).bound, h.2⟩⟩

section State

variable {s : State} (hs : TimeInv s)
include hs

theorem chan_time (c : Channel) : TimesFit (s.chan c) := ((timeInv_iff s).1 hs).1 c

/-- What leaves PST and PLR alone keeps the times. -/
theorem same_time {t : State} (hp : t.pst = s.pst) (hl : t.plr = s.plr) : TimeInv t := by
  refine (timeInv_iff t).2 ⟨fun c => ?_, by rw [hp]; exact hs.staged⟩
  rw [chan_of_plr hl]; exact chan_time hs c

theorem withOvr_time (x : Ovr) : TimeInv (s.withOvr x) := same_time hs rfl rfl
theorem withLnk_time (x : Lnk) : TimeInv (s.withLnk x) := same_time hs rfl rfl
theorem withNtq_time (x : Ntq) : TimeInv (s.withNtq x) := same_time hs rfl rfl
theorem withPins_time (x : Pins) : TimeInv (s.withPins x) := same_time hs rfl rfl

theorem setChan_time (c : Channel) {r : ChannelRec} (hr : TimesFit r) : TimeInv (s.setChan c r) := by
  refine (timeInv_iff _).2 ⟨fun d => ?_, hs.staged⟩
  rw [State.setChan_chan]; split
  · exact hr
  · exact chan_time hs d

/-- A change of a channel record in other fields than the plan, the stage index and the remaining time. -/
theorem moveChan_time (c : Channel) {r : ChannelRec} (hp : r.plan = (s.chan c).plan)
    (hi : r.stageIndex = (s.chan c).stageIndex) (hr : r.remaining = (s.chan c).remaining) :
    TimeInv (s.setChan c r) := setChan_time hs c ((chan_time hs c).of_same hp hi hr)

theorem modifyRecord_time (c : Channel) (i : Nat) {f : PoolRecord → PoolRecord}
    (hf : ∀ p, (f p).spec.duration = p.spec.duration) :
    TimeInv (s.setChan c ((s.chan c).modifyRecord i f)) :=
  setChan_time hs c ((chan_time hs c).modify i hf)

/-- A load context with other staged records. -/
theorem load_time {x : Pst} (hx : ∀ l ∈ x.load, ∀ p ∈ l.staged, p.duration ≤ 86399) :
    TimeInv (s.withPst x) := (timeInv_iff _).2 ⟨fun c => chan_time hs c, hx⟩

theorem foldl_time {α : Type} {f : State → α → State} (hf : ∀ t a, TimeInv t → TimeInv (f t a))
    (l : List α) : TimeInv (l.foldl f s) :=
  List.foldlRecOn l f hs fun t ht a _ => hf t a ht

end State

/-! ## The operations on channels -/

section Channels

variable {s : State} (hs : TimeInv s)
include hs

theorem raise_time (n : Notice) : TimeInv (raise n s) := same_time hs (by simp) (by simp)

theorem sync_time (c : Channel) : TimeInv (sync c s) := by
  refine (timeInv_iff _).2 ⟨fun d => ?_, by simpa using hs.staged⟩
  rw [sync_chan]; split
  · exact (chan_time hs c).of_same rfl rfl rfl
  · exact chan_time hs d

/-- A stage ends or is flushed: its mark, its notice, the last end cause. -/
theorem passStage_time (c : Channel) (i : Nat) (m : Mark) (cause : EndCause) :
    TimeInv (setLastEnd c cause (notifyStage c i cause (markRecord c i m s))) := by
  have hmarked : TimeInv (markRecord c i m s) := modifyRecord_time hs c i fun _ => rfl
  have hnotified : TimeInv (notifyStage c i cause (markRecord c i m s)) :=
    same_time hmarked (by simp) (by simp)
  exact moveChan_time hnotified c rfl rfl rfl

theorem finishPlan_time (c : Channel) (cause : PlanEnd) (detail : Nat) :
    TimeInv (finishPlan c cause detail s) := by
  rw [finishPlan_eq]
  exact raise_time (setChan_time hs c ((chan_time hs c).done cause)) _

theorem haltChannel_time (c : Channel) (cause : HaltCause) : TimeInv (haltChannel c cause s) :=
  raise_time (moveChan_time hs c (by rfl) (by rfl) (by rfl)) _

theorem enterRecord_time {c : Channel} {i : Nat} {p : PoolRecord} (hp : (s.chan c).plan[i]? = some p) :
    TimeInv (enterRecord c i p s) := by
  rw [enterRecord_eq]
  exact setChan_time hs c ((chan_time hs c).entered hp)

theorem findTarget_time : TimeInv (findTarget s) := by
  rw [findTarget_eq]
  have hmarked := modifyRecord_time hs .ov (s.chan .ov).stageIndex
    (f := fun p => { p with targetReached := true }) fun _ => rfl
  exact same_time (raise_time hmarked _) rfl rfl

/-- An entry passes over stages, enters one, or ends the plan. -/
theorem enterFrom_time (c : Channel) (fuel i : Nat) : TimeInv (enterFrom c fuel i s) := by
  induction fuel generalizing i s with
  | zero => exact hs
  | succ fuel ih =>
    unfold enterFrom
    split
    next => exact finishPlan_time hs c _ _
    next p hp =>
      have hentered := enterRecord_time hs hp
      have htaken (mode : Mode) (t : Nat) : TimeInv (takeBake mode t p.spec.preheat (enterRecord c i p s)) :=
        same_time hentered (by simp) (by simp)
      have hcleared : TimeInv (clearContext .wait (enterRecord c i p s)) :=
        same_time hentered (by simp) (by simp)
      dsimp only
      split
      next => exact ih (passStage_time hs c i _ _) _
      next =>
        split
        next =>
          split
          next mode t _ =>
            split_ifs
            · exact haltChannel_time (htaken mode t) _ _
            · exact ih (passStage_time (findTarget_time (htaken mode t)) c i _ _) _
            · exact findTarget_time (htaken mode t)
            · exact htaken mode t
          all_goals exact hcleared
        next => exact hentered

theorem endCurrent_time (c : Channel) (cause : EndCause) : TimeInv (endCurrent c cause s) :=
  enterFrom_time (passStage_time hs c _ _ _) c _ _

theorem targetCheck_time : TimeInv (targetCheck s) := by
  unfold targetCheck
  dsimp only
  split
  · split
    · exact hs
    · split
      · exact sync_time (endCurrent_time (findTarget_time hs) _ _) _
      · exact findTarget_time hs
  · exact hs

theorem pauseChannel_time (c : Channel) : TimeInv (pauseChannel c s) :=
  sync_time (moveChan_time hs c (by rfl) (by rfl) (by rfl)) c

theorem resumeChannel_time (c : Channel) : TimeInv (resumeChannel c s) := by
  have hrunning : TimeInv (s.setChan c { s.chan c with
      state := .running, pauseTimer := none, secondTimer := some 0 }) :=
    moveChan_time hs c rfl rfl rfl
  unfold resumeChannel
  refine sync_time ?_ c
  split
  · exact targetCheck_time hrunning
  · exact hrunning

theorem runFromStart_time (c : Channel) : TimeInv (runFromStart c s) :=
  sync_time (enterFrom_time (moveChan_time hs c (by rfl) (by rfl) (by rfl)) c _ _) c

theorem reportFault_time (c : Channel) (cause : HaltCause) : TimeInv (reportFault c cause s) := by
  unfold reportFault
  split
  · exact sync_time (haltChannel_time hs c cause) c
  · exact hs

theorem expirePause_time (c : Channel) : TimeInv (expirePause c s) :=
  sync_time (finishPlan_time (passStage_time hs c _ _ _) c _ _) c

theorem advanceSegment_time (c : Channel) (left : Nat) : TimeInv (advanceSegment c left s) := by
  unfold advanceSegment
  dsimp only
  split
  · split
    · split
      · exact sync_time (moveChan_time hs c (by rfl) (by rfl) (by rfl)) c
      · exact hs
    all_goals exact hs
  · exact hs

theorem nextSecond_time (c : Channel) : TimeInv (nextSecond c s) :=
  moveChan_time hs c (by rfl) (by rfl) (by rfl)

/-- A second takes one off the remaining time of a timed stage (R30). -/
theorem channelTick_time (c : Channel) : TimeInv (channelTick c s) := by
  unfold channelTick
  split
  next => exact hs
  next n hn =>
    have hless := setChan_time hs c ((chan_time hs c).countDown hn (Nat.sub_le n 1))
    dsimp only
    split
    · exact sync_time (endCurrent_time hless c _) c
    · exact advanceSegment_time hless c _

theorem linkPause_time (c : Channel) : TimeInv (linkPause c s) := by
  unfold linkPause
  split
  · exact pauseChannel_time hs c
  · exact hs

theorem emptyRecord_time (c : Channel) : TimeInv (emptyRecord c s) :=
  load_time (setChan_time hs c (.blank _)) hs.staged

theorem emptyChannel_time (c : Channel) : TimeInv (emptyChannel c s) :=
  sync_time (emptyRecord_time hs c) c

theorem closeLoad_time : TimeInv (closeLoad s) := load_time hs (by simp)

theorem stopEverything_time : TimeInv (stopEverything s) :=
  have hemptied := closeLoad_time (foldl_time hs (fun _ c ht => emptyRecord_time ht c) allChannels)
  have hburners {t : State} (ht : TimeInv t) : TimeInv (stopBurners t) := same_time ht (by simp) (by simp)
  hburners (foldl_time hemptied (fun _ c ht => sync_time ht c) allChannels)

/-! ## Adjustments -/

theorem changeCurrent_time (c : Channel) {f : StageSpec → StageSpec}
    (hf : ∀ p, (f p).duration = p.duration) : TimeInv (changeCurrent c f s) :=
  modifyRecord_time hs c _ fun p => hf p.spec

theorem setLevel_time (c : Channel) (n : Nat) : TimeInv (setLevel c n s) :=
  sync_time (changeCurrent_time hs c fun _ => by rfl) c

omit hs in
theorem addTime_eq (c : Channel) (n : Nat) (e : Int) (s : State) :
    addTime c n e s = s.setChan c { (s.chan c).modifyRecord (s.chan c).stageIndex (lengthened e) with
      remaining := .timed (n + e).toNat } := by
  unfold addTime changeCurrent
  dsimp only
  rw [State.setChan_chan_self, setChan_setChan]
  rfl

theorem addTime_time {c : Channel} {p : PoolRecord} (hp : p ∈ (s.chan c).current) {n : Nat}
    (hn : (s.chan c).remaining = .timed n) {e : Int} (he : e ≤ 86399 - p.spec.duration) :
    TimeInv (addTime c n e s) := by
  rw [addTime_eq]
  exact setChan_time hs c ((chan_time hs c).moved hp hn he)

theorem overshootCut_time : TimeInv (overshootCut s) := same_time hs (by simp) (by simp)

theorem setSetpoint_time (mode : Mode) (t : Nat) : TimeInv (setSetpoint mode t s) := by
  have hchanged : TimeInv (changeCurrent .ov (fun p => { p with kind := .bake mode t }) s) :=
    changeCurrent_time hs .ov fun _ => rfl
  unfold setSetpoint
  refine targetCheck_time (overshootCut_time ?_)
  dsimp only
  split
  · exact withOvr_time hchanged _
  · exact modifyRecord_time (withOvr_time hchanged _) .ov _ fun _ => rfl

end Channels

end Sys2Proof.Proofs
end

section
/-! The times of the stages (R43): the events, the requests, the link and the commands. -/

namespace Sys2Proof.Proofs

open Sys2Proof Sys2Proof.Machine Sys2Proof.Claims Sys2Proof.Safety

/-! ## The events -/

section Events

variable {s : State} (hs : TimeInv s)
include hs

theorem loseLink_time : TimeInv (loseLink s) := by
  unfold loseLink
  exact withLnk_time (raise_time (foldl_time (withLnk_time hs _)
    (fun _ c ht => linkPause_time ht c) _) _) _

theorem formSet_time : TimeInv (formSet s) := same_time hs (by simp) (by simp)

theorem boostSwitch_time : TimeInv (boostSwitch s) := by
  unfold boostSwitch
  dsimp only
  split
  · refine withOvr_time ?_ _
    split
    · exact reportFault_time (formSet_time (withOvr_time hs _)) _ _
    · exact formSet_time (withOvr_time hs _)
  · exact hs

theorem frameEvent_time : TimeInv (frameEvent s) := by
  have hopened : TimeInv (openFrame s) := same_time hs (by simp) (by simp)
  have hdemanded : TimeInv (frameOven (openFrame s)) :=
    foldl_time (boostSwitch_time hopened) (fun _ _ ht => same_time ht (by simp) (by simp)) _
  exact same_time hdemanded (by simp [frameEvent]) (by simp [frameEvent])

/-- The set check that follows the failure of an oven heater (R83, R84). -/
theorem checkSet_time : TimeInv (if s.ovr.context = .bake then
    (if emptyByFailure (formSet s) then reportFault .ov .element (formSet s) else formSet s)
    else s) := by
  split
  · split
    · exact reportFault_time (formSet_time hs) _ _
    · exact formSet_time hs
  · exact hs

theorem findFailed_time (h : Heater) : TimeInv (findFailed h s) := by
  have hmarked (x : HeaterOut) (n : Notice) :
      TimeInv (raise n ((holdHeater h .failed s).setHeaterOut h x)) := same_time hs (by simp) (by simp)
  have hhanded {t : State} (ht : TimeInv t) (o : OvenHeater) : TimeInv (handDemand o 0 t) :=
    same_time ht (by simp) (by simp)
  unfold findFailed
  dsimp only
  cases h
  case hz1 | hz2 | hgrill => exact reportFault_time (hmarked _ _) _ _
  all_goals exact checkSet_time (hhanded (hmarked _ _) _)

theorem findWelded_time (h : Heater) (also : List Heater) : TimeInv (findWelded h also s) := by
  have hsettled {t : State} (ht : TimeInv t) (x : OutStage) : TimeInv (settleAll (t.withOut x)) :=
    same_time ht (by simp) (by simp)
  unfold findWelded
  refine hsettled (foldl_time (raise_time (hsettled (same_time hs ?_ ?_) _) _)
    (fun _ c ht => reportFault_time ht c _) _) _
  · simp [foldl_keeps (g := State.pst)]
  · simp [foldl_keeps (g := State.plr)]

/-- LOCKED stops the timers of PLR and PST (R139 step 6). -/
theorem lockPlans_time : TimeInv (lockPlans s) := by
  refine (timeInv_iff _).2 ⟨fun c => ?_, fun l hl => ?_⟩
  · exact (chan_time hs c).of_same (by simp [lockPlans, State.chan]) (by simp [lockPlans, State.chan])
      (by simp [lockPlans, State.chan])
  · obtain ⟨k, hk, rfl⟩ := Option.map_eq_some_iff.1 hl
    exact hs.staged k hk

theorem enterLocked_time : TimeInv (enterLocked s) := by
  unfold enterLocked
  exact withLnk_time (withNtq_time (lockPlans_time (same_time hs (by simp) (by simp))) _) _

theorem runReached_time (h : Heater) (also : List Heater) : TimeInv (runReached h also s) := by
  unfold runReached
  split
  · split
    · exact enterLocked_time hs
    · split
      · exact findFailed_time hs h
      · exact findWelded_time hs h also
  · exact hs

theorem validReading_time (t : Nat) : TimeInv (validReading t s) := by
  have hcooled {u : State} (hu : TimeInv u) : TimeInv (evalCoolingFanAtReading (overshootCut u)) :=
    same_time hu (by simp) (by simp)
  unfold validReading
  refine hcooled (targetCheck_time ?_)
  dsimp only
  split
  · exact raise_time (withOvr_time hs _) _
  · exact withOvr_time hs _

theorem invalidReading_time : TimeInv (invalidReading s) := by
  unfold invalidReading
  dsimp only
  split
  · exact reportFault_time (raise_time (withOvr_time hs _) _) _ _
  · exact withOvr_time hs _

/-- A millisecond moves timers alone, and no remaining time. -/
theorem advance_time : TimeInv (advance s) := by
  have hticked : TimeInv (tickChannels (tickLoad (tickLink s))) := by
    refine (timeInv_iff _).2 ⟨fun c => ?_, fun l hl => ?_⟩
    · have hchan : (tickChannels (tickLoad (tickLink s))).chan c = (s.chan c).tick :=
        PerChannel.get_map _ _ _
      rw [hchan]
      exact (chan_time hs c).of_same rfl rfl rfl
    · obtain ⟨k, hk, rfl⟩ := Option.map_eq_some_iff.1 hl
      exact hs.staged k hk
  exact same_time hticked rfl rfl

theorem idleStep_time : TimeInv (idleStep s) := by
  unfold idleStep
  split
  · exact advance_time hs
  · exact same_time hs rfl rfl
  · exact same_time hs rfl rfl

end Events

/-! ## The requests -/

section Requests

variable {s : State} (hs : TimeInv s)
include hs

/-- A request on one channel keeps the times when it does so on each channel it can name. -/
theorem onChannel_time {f : Channel → State → Answered} (hf : ∀ c, TimeInv (f c s).state)
    (code detail : Nat) : TimeInv (onChannel code detail f s).state := by
  unfold onChannel
  split
  · exact hs
  · exact hf _

theorem planBegin_time (code count : Nat) : TimeInv (ownPlanBegin code count s).state := by
  refine onChannel_time hs (fun c => ?_) _ _
  split
  · exact hs
  · exact load_time hs (by simp)

/-- A record is staged only within 86,399 s (Table 1-5). -/
theorem planStage_time (index : Nat) (record : List Byte) :
    TimeInv (ownPlanStage index record s).state := by
  unfold ownPlanStage
  split
  next => exact hs
  next load hload =>
    dsimp only
    split_ifs
    · exact hs
    · exact hs
    · split
      next => exact hs
      next hchecked =>
        have hstaged (p : StageSpec) (hp : p ∈ load.staged ++ [recordOf record]) :
            p.duration ≤ 86399 := by
          obtain hp | hp := List.mem_append.1 hp
          · exact hs.staged load hload p hp
          · rw [List.mem_singleton.1 hp]; exact (stageFits_recordOf hchecked).1
        refine load_time hs fun l hl => ?_
        cases hl
        exact hstaged

theorem planCommit_time : TimeInv (ownPlanCommit s).state := by
  unfold ownPlanCommit
  split
  next => exact hs
  next load hload =>
    split
    next => exact closeLoad_time hs
    next =>
      have hplan (p : PoolRecord) (hp : p ∈ load.staged.map freshRecord) : p.spec.duration ≤ 86399 := by
        obtain ⟨q, hq, rfl⟩ := List.mem_map.1 hp
        exact hs.staged load hload q hq
      exact sync_time (setChan_time (load_time hs (by simp)) _ (.ready hplan _)) _

theorem quickPlan_time (c : Channel) (n : Nat) : TimeInv (quickPlan c n s) := by
  have hfreed (free : Nat) : TimeInv (s.withPst { s.pst with free := free }) := load_time hs hs.staged
  have hplan : ∀ p ∈ [freshRecord (quickStage n)], p.spec.duration ≤ 86399 := by
    simp [freshRecord, quickStage]
  exact runFromStart_time (setChan_time (hfreed _) c (.ready hplan _)) c

theorem quickStop_time (c : Channel) : TimeInv (quickStop c s).state := by
  unfold quickStop
  dsimp only
  split
  case h_1 | h_5 | h_6 => exact hs
  all_goals exact emptyChannel_time hs c

theorem quickSet_time (c : Channel) (n : Nat) : TimeInv (quickSet c n s).state := by
  have hset := setLevel_time hs c n
  have hplan := quickPlan_time hs c n
  unfold quickSet
  dsimp only
  split
  case h_4 => split <;> assumption
  case h_5 | h_6 => exact hs
  all_goals
    split
    · exact hs
    · split <;> assumption

theorem quickLevel_time (code level : Nat) : TimeInv (ownQuickLevel code level s).state := by
  refine onChannel_time hs (fun c => ?_) _ _
  split_ifs
  · exact hs
  · exact hs
  · exact quickStop_time hs c
  · exact quickSet_time hs c level

theorem adjustTime_time {c : Channel} {p : PoolRecord} (hp : p ∈ (s.chan c).current) (d : Int) :
    TimeInv (adjustTime c d p s).state := by
  unfold adjustTime
  split
  · exact hs
  next n hn => exact addTime_time hs hp hn (adjustDelta_le _ _ _ _)

theorem adjustCurrent_time (code u : Nat) (v : Int) (c : Channel) :
    TimeInv (adjustCurrent code u v c s).state := by
  have hlevel (p : PoolRecord) : TimeInv (adjustLevel c u p s).state := by
    unfold adjustLevel
    split
    · exact setLevel_time hs c u
    all_goals exact hs
  have hsetpoint (p : PoolRecord) : TimeInv (adjustSetpoint c u p s).state := by
    unfold adjustSetpoint
    split
    · split
      · exact setSetpoint_time hs _ _
      · exact hs
    all_goals exact hs
  have hact {p : PoolRecord} (hp : (s.chan c).current = some p) :
      TimeInv (match code with
        | 0 => adjustTime c v p s
        | 1 => adjustLevel c u p s
        | _ => adjustSetpoint c u p s).state := by
    split
    · exact adjustTime_time hs hp v
    · exact hlevel p
    · exact hsetpoint p
  unfold adjustCurrent
  split
  next p _ hp => exact hact hp
  next p _ hp => exact hact hp
  next => exact hs

theorem adjust_time (channel code u : Nat) (v : Int) : TimeInv (ownAdjust channel code u v s).state := by
  refine onChannel_time hs (fun c => ?_) _ _
  split
  · exact hs
  · exact adjustCurrent_time hs _ _ _ c

theorem actStart_time (c : Channel) : TimeInv (actStart c s).state := by
  unfold actStart
  split
  · exact hs
  · split
    · exact hs
    · exact runFromStart_time hs c

theorem actPause_time (c : Channel) : TimeInv (actPause c s).state := by
  unfold actPause
  split
  · exact hs
  · exact pauseChannel_time hs c

theorem actResume_time (c : Channel) : TimeInv (actResume c s).state := by
  unfold actResume
  split
  · exact hs
  · exact resumeChannel_time hs c

theorem actSkip_time (c : Channel) : TimeInv (actSkip c s).state := by
  unfold actSkip
  split
  · exact hs
  · exact sync_time (endCurrent_time hs c .cut) c

theorem actStop_time (c : Channel) : TimeInv (actStop c s).state := by
  have hemptied := emptyChannel_time hs c
  unfold actStop
  split <;> assumption

theorem actClear_time (c : Channel) : TimeInv (actClear c s).state := by
  have hemptied := emptyChannel_time hs c
  unfold actClear
  split <;> assumption

theorem closeConfig_time : TimeInv (ownCloseConfig s).state := by
  unfold ownCloseConfig
  split
  · exact hs
  · exact same_time hs (by simp [accepted]) (by simp [accepted])

/-- A read moves the cursor alone. -/
theorem readRecord_time (c : Channel) (i : Nat) (p : PoolRecord) :
    TimeInv (readRecord c i p s).state := (timeInv_iff _).2 ⟨fun c => chan_time hs c, hs.staged⟩

theorem readStage_time (code index : Nat) : TimeInv (ownReadStage code index s).state := by
  refine onChannel_time hs (fun c => ?_) _ _
  split
  · exact hs
  · exact readRecord_time hs _ _ _

theorem readStageNext_time : TimeInv (ownReadStageNext s).state := by
  unfold ownReadStageNext
  split
  · exact hs
  · split
    · exact hs
    · exact readRecord_time hs _ _ _

/-- Every request keeps the times; those of the kinds not named here leave PST and PLR as they were. -/
theorem ownerActs_time (k : ReqKind) (body : List Byte) : TimeInv (ownerActs k body s).state := by
  cases k <;>
    dsimp only [ownerActs, ownStart, ownPause, ownResume, ownSkip, ownStop, ownClear, ownReadChannel]
  case planBegin => exact planBegin_time hs _ _
  case planStage => exact planStage_time hs _ _
  case planCommit => exact planCommit_time hs
  case quickLevel => exact quickLevel_time hs _ _
  case stopAll => simpa only [ownStopAll, accepted] using stopEverything_time hs
  case start => exact onChannel_time hs (actStart_time hs) _ _
  case pause => exact onChannel_time hs (actPause_time hs) _ _
  case resume => exact onChannel_time hs (actResume_time hs) _ _
  case skip => exact onChannel_time hs (actSkip_time hs) _ _
  case stop => exact onChannel_time hs (actStop_time hs) _ _
  case clear => exact onChannel_time hs (actClear_time hs) _ _
  case adjust => exact adjust_time hs _ _ _ _
  case closeConfig => exact closeConfig_time hs
  case readStage =>
    split
    · exact readStageNext_time hs
    · exact readStage_time hs _ _
  case readChannel => exact onChannel_time hs (fun _ => hs) _ _
  case status | readConfig => exact hs
  case fetchNotices =>
    unfold ownFetchNotices
    dsimp only
    split_ifs
    · exact hs
    · exact hs
    · exact same_time hs (by simp [accepted]) (by simp [accepted])
    · exact same_time hs (by simp [accepted]) (by simp [accepted])
  case armAttention =>
    exact same_time hs (by simp [ownArmAttention, accepted]) (by simp [ownArmAttention, accepted])
  all_goals
    simp only [ownSetBudget, ownSetHeater, ownSetOvenTuning, ownSetLink, ownRestart, ownReadFrame]
    repeat' split
    all_goals exact same_time hs rfl rfl

end Requests

/-! ## The link -/

section Link

variable {s : State} (hs : TimeInv s)
include hs

theorem takeRequest_time (r : Request) : TimeInv (takeRequest r s) := by
  have hdecided : TimeInv (decideRequest r s).state := by
    unfold decideRequest
    split
    · exact hs
    · exact ownerActs_time hs _ _
  unfold takeRequest
  split
  · unfold answerRequest clearReported
    split <;> exact same_time hdecided rfl rfl
  · exact hdecided

theorem placeRequest_time (r : Request) : TimeInv (placeRequest r s) := by
  unfold placeRequest
  split
  · exact takeRequest_time hs r
  all_goals exact withLnk_time hs _

theorem acceptFrame_time (r : Request) : TimeInv (acceptFrame r s) := by
  have hheard : TimeInv (restartSupervision s) := by
    unfold restartSupervision
    split
    · exact withLnk_time hs _
    · exact hs
  unfold acceptFrame
  dsimp only
  split
  · exact placeRequest_time hheard r
  · split
    · exact placeRequest_time hheard r
    · exact hheard

theorem abandonFrame_time : TimeInv (abandonFrame s) := by
  unfold abandonFrame
  split
  · exact withLnk_time hs _
  all_goals exact hs

theorem arriveRequest_time (a : FrameAddr) (kind tag : Byte) (body : List Byte) :
    TimeInv (arriveRequest a kind tag body s) := by
  unfold arriveRequest
  dsimp only
  split
  · exact withLnk_time (abandonFrame_time hs) _
  · exact acceptFrame_time (withLnk_time (abandonFrame_time hs) _) _

theorem addressChar_time (a : Byte) : TimeInv (addressChar a s) := by
  unfold addressChar
  dsimp only
  split_ifs
  all_goals exact withLnk_time (abandonFrame_time hs) _

theorem dataChar_time (d : Byte) : TimeInv (dataChar d s) := by
  unfold dataChar completeFrame
  dsimp only
  split
  · exact hs
  · exact hs
  · split_ifs
    · exact withLnk_time hs _
    · exact acceptFrame_time (withLnk_time hs _) _
    · exact withLnk_time (withLnk_time hs _) _
    · exact withLnk_time hs _

end Link

/-- After a reset no plan is held and no record staged (R6, R175). -/
theorem resetBlocks_time (cause : ResetCause) (s : State) : TimeInv (resetBlocks cause s) := by
  refine (timeInv_iff _).2 ⟨fun c => ?_, by simp [resetBlocks, Pst.reset]⟩
  have hchan : (resetBlocks cause s).chan c = ChannelRec.reset := PerChannel.get_const _ c
  rw [hchan]
  exact .blank 0

theorem endReply_time {s : State} (hs : TimeInv s) : TimeInv (endReply s) := by
  unfold endReply
  split
  · split
    · exact resetBlocks_time .requested s
    · unfold takeWaiting
      split
      · exact withLnk_time hs _
      · exact takeRequest_time (withLnk_time (withLnk_time hs _) _) _
  all_goals exact hs

/-! ## The commands -/

section Commands

variable {s : State} (hs : TimeInv s)
include hs

theorem reportClosing_time (c : Channel) : TimeInv (reportClosing c s) := by
  unfold reportClosing
  split
  · exact emptyChannel_time hs c
  · exact hs

/-- Every command keeps the times. -/
theorem exec_time {t : State} (i : Instr) (h : exec i s = .next t) : TimeInv t := by
  have hrequest {r : Request} (hr : requestFrame i = some r) : TimeInv t := by
    rw [exec_eq_arrive s hr] at h
    cases h
    exact arriveRequest_time hs _ _ _ _
  cases i
  case powerOnReset => cases h; exact resetBlocks_time .powerOn _
  case addressCharacter a => cases h; exact addressChar_time hs a
  case dataCharacter d => cases h; exact dataChar_time hs d
  case framingError => cases h; exact abandonFrame_time hs
  case gapTimeout =>
    cases h; split
    · exact abandonFrame_time hs
    · exact hs
  case replySent => cases h; exact endReply_time hs
  case linkSupervisionExpiry =>
    cases h; split
    · exact loseLink_time hs
    · exact hs
  case loadIdleTimeout =>
    cases h; split
    · exact closeLoad_time hs
    · exact hs
  case channelSecond c =>
    cases h; split
    · exact channelTick_time (nextSecond_time hs c) c
    · exact hs
  case stageElapsed c =>
    have hsecond := nextSecond_time hs c
    cases h; split
    · exact sync_time (endCurrent_time (setChan_time hsecond c (chan_time hsecond c).elapsed) c _) c
    · exact hs
  case pauseTimerSecond c =>
    cases h; split
    · exact hs
    · split
      · exact expirePause_time hs c
      · exact moveChan_time hs c (by rfl) (by rfl) (by rfl)
  case pauseExpiry c =>
    cases h; split
    · exact expirePause_time hs c
    · exact hs
  case frameBoundary =>
    cases h; split
    · exact hs
    · exact frameEvent_time hs
  case probeReading reading =>
    cases h
    dsimp only
    split
    · split
      · exact validReading_time (withOvr_time (withPins_time hs _) _) _
      · exact invalidReading_time (withOvr_time (withPins_time hs _) _)
    · exact withPins_time hs _
  case knobClosed n =>
    cases h; split
    · exact hs
    · exact reportClosing_time (same_time hs (by simp) (by simp)) _
  case persistenceRunExpiry g also => cases h; exact runReached_time hs g also
  case replyStart =>
    cases h; unfold startReply; split
    · exact same_time hs rfl rfl
    · exact hs
  case doorInputChange | knobInputChange | doorOpened | flameSenseChange | loadSenseChange =>
    cases h
    dsimp only
    repeat' split
    all_goals exact same_time hs (by simp) (by simp)
  case slotBoundary | doorClosed | knobOpened | restTimerExpiry | flameProven | attemptFailed
    | retryGapExpiry | flameLost | settlingEnd | contactorProvingExpiry | spacingTimerExpiry =>
    cases h
    repeat' split
    all_goals exact same_time hs (by simp) (by simp)
  case holdTailEnd =>
    cases h; split
    · exact same_time hs (by simp [foldl_keeps (g := State.pst)]) (by simp [foldl_keeps (g := State.plr)])
    · exact hs
    · exact hs
  all_goals exact hrequest rfl

end Commands

/-- Settles O53: a command keeps the times, and so does the part's own clock. -/
theorem timesStayWithinDurations : Obligations.TimesStayWithinDurations := by
  intro s t hs hstep
  unfold step at hstep
  split at hstep
  next c rest _ => exact exec_time (same_time (t := s.withPending rest) hs rfl rfl) c hstep
  next => cases hstep; exact idleStep_time hs

end Sys2Proof.Proofs
end

section
/-! The step and the queue of waiting commands (R49). -/

namespace Sys2Proof.Proofs

open Sys2Proof Sys2Proof.Machine Sys2Proof.Claims

/-- Settles O1. -/
theorem stepRunsFrontCommand : Obligations.StepRunsFrontCommand := fun _ _ _ => rfl

/-! ## The link leaves the queue -/

theorem takeRequest_pending (r : Request) (s : State) : (takeRequest r s).pending = s.pending := by
  have hdecided := (decideRequest_keeps r s).pending
  have hanswered (a : Answered) : (answerRequest r a).pending = a.state.pending := by
    unfold answerRequest clearReported; split <;> rfl
  unfold takeRequest
  split
  · exact (hanswered _).trans hdecided
  · exact hdecided

theorem placeRequest_pending (r : Request) (s : State) : (placeRequest r s).pending = s.pending := by
  unfold placeRequest
  split
  · exact takeRequest_pending r s
  all_goals rfl

theorem acceptFrame_pending (r : Request) (s : State) : (acceptFrame r s).pending = s.pending := by
  have hheard : (restartSupervision s).pending = s.pending := by
    unfold restartSupervision; split <;> rfl
  have hplaced := (placeRequest_pending r (restartSupervision s)).trans hheard
  unfold acceptFrame
  dsimp only
  split
  · exact hplaced
  · split
    · exact hplaced
    · exact hheard

theorem abandonFrame_pending (s : State) : (abandonFrame s).pending = s.pending := by
  unfold abandonFrame; split <;> rfl

theorem addressChar_pending (a : Byte) (s : State) : (addressChar a s).pending = s.pending := by
  unfold addressChar
  dsimp only
  split_ifs <;> exact abandonFrame_pending s

theorem dataChar_pending (d : Byte) (s : State) : (dataChar d s).pending = s.pending := by
  unfold dataChar completeFrame
  dsimp only
  split
  · rfl
  · rfl
  · split_ifs
    · rfl
    · exact acceptFrame_pending _ _
    · rfl
    · rfl

theorem arriveRequest_pending (a : FrameAddr) (kind tag : Byte) (body : List Byte) (s : State) :
    (arriveRequest a kind tag body s).pending = s.pending := by
  unfold arriveRequest
  dsimp only
  split
  · exact abandonFrame_pending s
  · exact (acceptFrame_pending _ _).trans (abandonFrame_pending s)

theorem endReply_pending (s : State) : (endReply s).pending = s.pending := by
  unfold endReply
  split
  · split
    · rfl
    · unfold takeWaiting
      split
      · rfl
      · exact takeRequest_pending _ _
  all_goals rfl

/-- Settles O2: a request by its arrival, the link's commands by the lemmas above, every other command by
the frames of what it calls. -/
theorem commandsCompleteAndLeaveTheQueue : Obligations.CommandsCompleteAndLeaveTheQueue := by
  intro c s
  have hrequest {r : Request} (hr : requestFrame c = some r) :
      ∃ t, exec c s = .next t ∧ t.pending = s.pending :=
    ⟨_, exec_eq_arrive s hr, arriveRequest_pending _ _ _ _ s⟩
  cases c
  case powerOnReset => exact ⟨_, rfl, rfl⟩
  case addressCharacter a => exact ⟨_, rfl, addressChar_pending a s⟩
  case dataCharacter d => exact ⟨_, rfl, dataChar_pending d s⟩
  case framingError => exact ⟨_, rfl, abandonFrame_pending s⟩
  case gapTimeout => exact ⟨_, rfl, by split <;> simp [abandonFrame_pending]⟩
  case replyStart => exact ⟨_, rfl, by unfold startReply; split <;> rfl⟩
  case replySent => exact ⟨_, rfl, endReply_pending s⟩
  case holdTailEnd =>
    exact ⟨_, rfl, by split <;> simp [foldl_keeps (g := State.pending)]⟩
  case probeReading | doorInputChange | knobInputChange | flameSenseChange | loadSenseChange =>
    refine ⟨_, rfl, ?_⟩
    dsimp only
    repeat' split
    all_goals simp
  case linkSupervisionExpiry | loadIdleTimeout | channelSecond | stageElapsed | pauseTimerSecond
    | pauseExpiry | slotBoundary | frameBoundary | doorOpened | doorClosed | knobOpened | knobClosed
    | restTimerExpiry | flameProven | attemptFailed | retryGapExpiry | flameLost | settlingEnd
    | persistenceRunExpiry | contactorProvingExpiry | spacingTimerExpiry =>
    refine ⟨_, rfl, ?_⟩
    repeat' split
    all_goals simp
  all_goals exact hrequest rfl

end Sys2Proof.Proofs
end

section
/-! The levels of a ramp (R40). -/

namespace Sys2Proof.Proofs

open Sys2Proof Sys2Proof.Machine

/-- The step of segment j of m + 1, from a level that is delta away from the end (R40). -/
def rampStep (delta m j : Nat) : Nat := (delta * j + m / 2) / m

section

variable {m : Nat} (hm : 0 < m) (delta : Nat)
include hm

/-- Half a step rounds to nothing. -/
theorem half_div : m / 2 / m = 0 := Nat.div_eq_of_lt (Nat.div_lt_self hm (by decide))

theorem rampStep_zero : rampStep delta m 0 = 0 := by
  rw [rampStep, Nat.mul_zero, Nat.zero_add, half_div hm]

theorem rampStep_last : rampStep delta m m = delta := by
  rw [rampStep, Nat.mul_comm, Nat.mul_add_div hm, half_div hm, Nat.add_zero]

omit hm in
theorem rampStep_mono {i j : Nat} (h : i ≤ j) : rampStep delta m i ≤ rampStep delta m j :=
  Nat.div_le_div_right (Nat.add_le_add_right (Nat.mul_le_mul_left delta h) _)

theorem rampStep_le {j : Nat} (h : j ≤ m) : rampStep delta m j ≤ delta :=
  (rampStep_mono delta h).trans_eq (rampStep_last hm delta)

end

section

variable {a b k : Nat} (hk : 2 ≤ k) (j : Nat)
include hk

theorem segmentLevel_rising (h : a ≤ b) : segmentLevel a b k j = a + rampStep (b - a) (k - 1) j := by
  simp [segmentLevel, rampStep, h, show ¬ k ≤ 1 by omega]

theorem segmentLevel_falling (h : b < a) : segmentLevel a b k j = a - rampStep (a - b) (k - 1) j := by
  simp [segmentLevel, rampStep, Nat.not_le.2 h, show ¬ k ≤ 1 by omega]

end

/-- Settles O33: the levels follow the steps, which run from 0 to the whole distance and never decrease. -/
theorem rampLevelsStepEvenly : Obligations.RampLevelsStepEvenly := by
  intro a b k
  refine ⟨rfl, fun hk => ?_⟩
  have hm : 0 < k - 1 := by omega
  refine ⟨fun j h => segmentLevel_rising hk j h, fun j h => segmentLevel_falling hk j h, ?_⟩
  obtain h | h := Nat.lt_or_ge b a
  · have hle {j : Nat} (hj : j ≤ k - 1) := rampStep_le hm (a - b) hj
    simp only [segmentLevel_falling hk _ h, rampStep_zero hm, rampStep_last hm]
    refine ⟨rfl, by omega, fun i j hij hj => ⟨fun h' => by omega, fun _ => ?_⟩⟩
    have hmono := rampStep_mono (m := k - 1) (a - b) hij
    have hlast := hle hj
    omega
  · have hle {j : Nat} (hj : j ≤ k - 1) := rampStep_le hm (b - a) hj
    simp only [segmentLevel_rising hk _ h, rampStep_zero hm, rampStep_last hm]
    refine ⟨rfl, by omega, fun i j hij hj => ?_⟩
    have hmono := rampStep_mono (m := k - 1) (b - a) hij
    have hlast := hle hj
    constructor <;> intro h' <;> omega

end Sys2Proof.Proofs
end

section
/-! The entry of a stage (R31, R32, R34, R35, R82, R84, R87). -/

namespace Sys2Proof.Proofs

open Sys2Proof Sys2Proof.Machine Sys2Proof.Claims

/-! ## One step of an entry -/

section

variable {c : Channel} {fuel i : Nat} {s : State} {p : PoolRecord}

/-- The oven once it has taken stage i, with record p, of mode m and setpoint t. -/
def bakeEntered (i : Nat) (p : PoolRecord) (m : Mode) (t : Nat) (s : State) : State :=
  bakeTaken m t p.spec.preheat (s.setChan .ov (entered (s.chan .ov) i p.spec))

theorem enterFrom_past (hp : (s.chan c).plan[i]? = none) :
    enterFrom c (fuel + 1) i s = completePlan c s := by
  simp only [enterFrom, hp]

theorem enterFrom_flushed (hp : (s.chan c).plan[i]? = some p) (hf : flushed p.spec (s.chan c).lastEnd) :
    enterFrom c (fuel + 1) i s = enterFrom c fuel (i + 1) (flushStage c i s) := by
  unfold flushed at hf
  simp only [enterFrom, hp, if_pos hf]

theorem enterFrom_entered (hc : c ≠ .ov) (hp : (s.chan c).plan[i]? = some p)
    (hf : ¬ flushed p.spec (s.chan c).lastEnd) :
    enterFrom c (fuel + 1) i s = enterRecord c i p s := by
  unfold flushed at hf
  simp only [enterFrom, hp, if_neg hf, if_neg hc]

theorem enterFrom_waits (hp : (s.chan .ov).plan[i]? = some p)
    (hf : ¬ flushed p.spec (s.chan .ov).lastEnd) (hk : ∀ m t, p.spec.kind ≠ .bake m t) :
    enterFrom .ov (fuel + 1) i s = clearContext .wait (enterRecord .ov i p s) := by
  unfold flushed at hf
  simp only [enterFrom, hp, if_neg hf, if_true]
  split
  next m t h => exact absurd h (hk m t)
  all_goals rfl

theorem enterFrom_bakes {m : Mode} {t : Nat} (hp : (s.chan .ov).plan[i]? = some p)
    (hf : ¬ flushed p.spec (s.chan .ov).lastEnd) (hk : p.spec.kind = .bake m t) :
    enterFrom .ov (fuel + 1) i s =
      if emptyByFailure (bakeEntered i p m t s) then haltChannel .ov .element (bakeEntered i p m t s)
      else if atTarget (bakeEntered i p m t s) then
        if p.spec.endOnTarget then
          enterFrom .ov fuel (i + 1) (endStage .ov i .target (findTarget (bakeEntered i p m t s)))
        else findTarget (bakeEntered i p m t s)
      else bakeEntered i p m t s := by
  unfold flushed at hf
  unfold bakeEntered
  rw [← takeBake_eq, ← enterRecord_eq]
  simp only [enterFrom, hp, if_neg hf, if_true, hk]

end

/-! ## The bound on the stages that one entry passes -/

theorem bakeEntered_length (i : Nat) (p : PoolRecord) (m : Mode) (t : Nat) (s : State) :
    ((bakeEntered i p m t s).chan .ov).plan.length = (s.chan .ov).plan.length := by
  simp [bakeEntered, bakeTaken, entered]

/-- The plan that a target ends a stage of is as long as it was. -/
theorem targetEnded_length (i : Nat) (p : PoolRecord) (m : Mode) (t : Nat) (s : State) :
    ((endStage .ov i .target (findTarget (bakeEntered i p m t s))).chan .ov).plan.length =
      (s.chan .ov).plan.length := by
  rw [(endStage_keepsPool .ov _ i .target).length, (findTarget_keepsPool _).length, bakeEntered_length]

/-- More fuel than the records still to pass changes nothing. -/
theorem enterFrom_succ (c : Channel) {fuel i : Nat} {s : State} (h0 : 0 < fuel)
    (h : (s.chan c).plan.length < fuel + i) : enterFrom c (fuel + 1) i s = enterFrom c fuel i s := by
  induction fuel generalizing i s with
  | zero => omega
  | succ fuel ih =>
    cases hp : (s.chan c).plan[i]? with
    | none => rw [enterFrom_past hp, enterFrom_past hp]
    | some p =>
      have hi : i < (s.chan c).plan.length := (List.getElem?_eq_some_iff.1 hp).1
      have hnext {u : State} (hu : (u.chan c).plan.length = (s.chan c).plan.length) :
          enterFrom c (fuel + 1) (i + 1) u = enterFrom c fuel (i + 1) u :=
        ih (by omega) (by omega)
      by_cases hf : flushed p.spec (s.chan c).lastEnd
      · rw [enterFrom_flushed hp hf, enterFrom_flushed hp hf,
          hnext ((flushStage_keepsPool c s i).length c)]
      · by_cases hc : c = .ov
        · subst hc
          by_cases hk : ∃ m t, p.spec.kind = .bake m t
          · obtain ⟨m, t, hk⟩ := hk
            rw [enterFrom_bakes hp hf hk, enterFrom_bakes hp hf hk, hnext (targetEnded_length i p m t s)]
          · push Not at hk
            rw [enterFrom_waits hp hf hk, enterFrom_waits hp hf hk]
        · rw [enterFrom_entered hc hp hf, enterFrom_entered hc hp hf]

/-- The entry goes on with the next stage. -/
theorem enterFrom_next {c : Channel} {i : Nat} {s u : State} {p : PoolRecord}
    (hp : (s.chan c).plan[i]? = some p) (hu : (u.chan c).plan.length = (s.chan c).plan.length) :
    enterFrom c (s.chan c).stageCount (i + 1) u = enterStage c (i + 1) u := by
  have hi : i < (s.chan c).plan.length := (List.getElem?_eq_some_iff.1 hp).1
  unfold enterStage ChannelRec.stageCount
  rw [hu, enterFrom_succ c (by omega) (by omega)]

/-! ## The entry -/

section

variable {c : Channel} {i : Nat} {s : State} {p : PoolRecord}

theorem enterStage_flushed (hp : (s.chan c).plan[i]? = some p)
    (hf : flushed p.spec (s.chan c).lastEnd) :
    enterStage c i s = enterStage c (i + 1) (stageEnd c i p.spec .flushed
      (s.setChan c { s.chan c with plan := marked (s.chan c) i .flushed, lastEnd := .flushed })) := by
  rw [← flushStage_eq c i s p hp, ← enterFrom_next hp ((flushStage_keepsPool c s i).length c)]
  exact enterFrom_flushed hp hf

variable {m : Mode} {t : Nat}

theorem bakeEntered_failed :
    emptyByFailure (bakeEntered i p m t s) = true ↔
      failedSet s (bakeEntered i p m t s).ovr.source m := emptyByFailure_iff _

theorem bakeEntered_atTarget :
    atTarget (bakeEntered i p m t s) = true ↔ ∃ f, s.tempF = some f ∧ t ≤ f := atTarget_iff _

theorem findTarget_bakeEntered :
    findTarget (bakeEntered i p m t s) = reached i (bakeEntered i p m t s) := findTarget_eq _

/-- The end of a stage whose target is found at its entry. -/
theorem endStage_reached (hp : (s.chan .ov).plan[i]? = some p) :
    endStage .ov i .target (reached i (bakeEntered i p m t s)) =
      ended .ov i p.spec .target (reached i (bakeEntered i p m t s)) := by
  have hrecord : ((reached i (bakeEntered i p m t s)).chan .ov).plan[i]? =
      some { p with mark := .current, targetReached := true } := by
    simp [reached, bakeEntered, bakeTaken, entered, hp]
  exact endStage_eq .ov i .target _ { p with mark := .current, targetReached := true } hrecord

end

/-- Settles O22: each case is one step of the entry, and the fuel suffices for the next one. -/
theorem enteringAStage : Obligations.EnteringAStage := by
  intro c i s r
  refine ⟨fun hp => enterFrom_past hp, fun p hp => ⟨enterStage_flushed hp, ?_⟩⟩
  intro hf e
  refine ⟨fun hc => enterStage_of_ne_ov hc hp hf, ?_, ?_⟩
  · rintro rfl hk
    exact (enterFrom_waits hp hf hk).trans (by rw [enterRecord_eq, clearContext_eq])
  · rintro m t rfl hk b failure target
    have hstep : enterStage .ov i s = _ := enterFrom_bakes hp hf hk
    have hfailed : emptyByFailure (bakeEntered i p m t s) = true ↔ failure := bakeEntered_failed
    have htarget : atTarget (bakeEntered i p m t s) = true ↔ target := bakeEntered_atTarget
    rw [hstep]
    refine ⟨fun h => ?_, fun h h' => ?_, fun h h' hend => ?_, fun h h' hend => ?_⟩
    · rw [if_pos (hfailed.2 h), haltChannel_eq]
      have hindex : ((bakeEntered i p m t s).chan .ov).stageIndex = i := rfl
      rw [hindex]
      rfl
    · rw [if_neg (mt hfailed.1 h), if_neg (mt htarget.1 h')]
      rfl
    · rw [if_neg (mt hfailed.1 h), if_pos (htarget.2 h'), if_neg (by simp [hend]),
        findTarget_bakeEntered]
      rfl
    · rw [if_neg (mt hfailed.1 h), if_pos (htarget.2 h'), if_pos hend,
        enterFrom_next hp (targetEnded_length i p m t s), findTarget_bakeEntered, endStage_reached hp]
      rfl

end Sys2Proof.Proofs
end

section
/-! ADJUST (R42): its operands, and the checks that come before an adjustment acts. -/

namespace Sys2Proof.Proofs

open Sys2Proof Sys2Proof.Machine Sys2Proof.Claims

/-! ## The operands -/

/-- The value operand is read back unsigned. -/
theorem adjust_num24 (code adjustment : Byte) (v : BitVec 24) :
    num24 ([code, adjustment] ++ be24 v.toNat) 2 = v.toNat := by
  simpa using num24_be24 v.isLt [code, adjustment] []

/-- The value operand is read back in two's complement. -/
theorem adjust_int24 (code adjustment : Byte) (v : BitVec 24) :
    int24 ([code, adjustment] ++ be24 v.toNat) 2 = v.toInt := by
  unfold int24
  rw [adjust_num24, BitVec.toInt]
  split <;> split <;> omega

/-! ## The channel -/

/-- What ADJUST does on the channel it names: the checks of the value, then those of the channel. -/
def adjustAct (adjustment unsignedValue : Nat) (signedValue : Int) (c : Channel) (s : State) : Answered :=
  match adjustProblem adjustment unsignedValue signedValue with
  | some detail => refused .outOfRange detail s
  | none => adjustCurrent adjustment unsignedValue signedValue c s

theorem adjust_names {i : Instr} {tag code adjustment : Byte} {value : List Byte}
    (hi : requestFrame i = some ⟨.unit, 0x1E, tag, [code, adjustment] ++ value⟩)
    (hv : value.length = 3) :
    NamesChannel i ⟨.unit, 0x1E, tag, [code, adjustment] ++ value⟩ .adjust code 1
      (adjustAct adjustment.toNat (num24 ([code, adjustment] ++ value) 2)
        (int24 ([code, adjustment] ++ value) 2)) :=
  ⟨hi, rfl, rfl, by simp [lengthFits, hv], by simp [hv], rfl, rfl, fun _ => rfl⟩

section

variable (tag code : Byte) (v : BitVec 24)

theorem adjustTime_names : NamesChannel (.adjustTime tag code v)
    ⟨.unit, 0x1E, tag, [code, 0] ++ be24 v.toNat⟩ .adjust code 1 (adjustAct 0 v.toNat v.toInt) := by
  have h := adjust_names (i := .adjustTime tag code v) (value := be24 v.toNat) rfl rfl
  rwa [adjust_num24, adjust_int24] at h

theorem adjustLevel_names : NamesChannel (.adjustLevel tag code v)
    ⟨.unit, 0x1E, tag, [code, 1] ++ be24 v.toNat⟩ .adjust code 1 (adjustAct 1 v.toNat v.toInt) := by
  have h := adjust_names (i := .adjustLevel tag code v) (value := be24 v.toNat) rfl rfl
  rwa [adjust_num24, adjust_int24] at h

theorem adjustSetpoint_names : NamesChannel (.adjustSetpoint tag code v)
    ⟨.unit, 0x1E, tag, [code, 2] ++ be24 v.toNat⟩ .adjust code 1 (adjustAct 2 v.toNat v.toInt) := by
  have h := adjust_names (i := .adjustSetpoint tag code v) (value := be24 v.toNat) rfl rfl
  rwa [adjust_num24, adjust_int24] at h

end

/-! ## The value, the channel state and the stage -/

section

variable {adjustment u : Nat} {v : Int} {c : Channel} {s : State}

theorem adjustAct_problem {detail : Nat} (h : adjustProblem adjustment u v = some detail) :
    adjustAct adjustment u v c s = refused .outOfRange detail s := by
  unfold adjustAct; rw [h]

theorem adjustAct_inRange (h : adjustProblem adjustment u v = none) :
    adjustAct adjustment u v c s = adjustCurrent adjustment u v c s := by
  unfold adjustAct; rw [h]

theorem adjustCurrent_stopped (hr : (s.chan c).state ≠ .running) (hp : (s.chan c).state ≠ .paused) :
    adjustCurrent adjustment u v c s = wrongState c s := by
  unfold adjustCurrent
  split
  next h _ => exact absurd h hr
  next h _ => exact absurd h hp
  next => rfl

/-- The adjustment of the current stage of a channel that runs or is paused. -/
def adjustStage (adjustment u : Nat) (v : Int) (c : Channel) (p : PoolRecord) (s : State) : Answered :=
  match adjustment with
  | 0 => adjustTime c v p s
  | 1 => adjustLevel c u p s
  | _ => adjustSetpoint c u p s

theorem adjustCurrent_stage {p : PoolRecord}
    (hst : (s.chan c).state = .running ∨ (s.chan c).state = .paused)
    (hp : (s.chan c).plan[(s.chan c).stageIndex]? = some p) :
    adjustCurrent adjustment u v c s = adjustStage adjustment u v c p s := by
  have hcur : (s.chan c).current = some p := hp
  unfold adjustCurrent adjustStage
  obtain h | h := hst <;> rw [h, hcur] <;> rfl

variable {p : PoolRecord}

theorem adjustTime_unsuited (h : ¬ ∃ n, (s.chan c).remaining = .timed n) :
    adjustTime c v p s = unsuited p s := by
  unfold adjustTime
  split
  next => rfl
  next n hn => exact absurd ⟨n, hn⟩ h

theorem adjustLevel_unsuited (h : ¬ ∃ n, p.spec.kind = .level n) :
    adjustLevel c u p s = unsuited p s := by
  unfold adjustLevel
  split
  next n hn => exact absurd ⟨n, hn⟩ h
  all_goals rfl

theorem adjustSetpoint_unsuited (h : ¬ ∃ m t, p.spec.kind = .bake m t) :
    adjustSetpoint c u p s = unsuited p s := by
  unfold adjustSetpoint
  split
  next m t hk => exact absurd ⟨m, t, hk⟩ h
  all_goals rfl

end

/-- The refusals of an ADJUST, from the range of its value and the stages that suit it. -/
theorem adjust_refuses {i : Instr} {r : Request} {code : Byte} {adjustment u detail : Nat} {v : Int}
    {inRange : Prop} {suits : Remaining → StageKind → Prop} {s : State}
    (hn : NamesChannel i r .adjust code 1 (adjustAct adjustment u v)) (hs : free s)
    (hp : s.cfg.part ≠ .locked) (hout : ¬ inRange → adjustProblem adjustment u v = some detail)
    (hin : inRange → adjustProblem adjustment u v = none)
    (hsuits : ∀ (c : Channel) (p : PoolRecord), ¬ suits (s.chan c).remaining p.spec.kind →
      adjustStage adjustment u v c p (heard s) = unsuited p (heard s)) :
    adjustRefusals i r code inRange detail suits s := by
  have hacts {c : Channel} (hc : Named s code c) :
      exec i s = .next (answerRequest r (adjustAct adjustment u v c (heard s))) :=
    hn.acts_always (by simp [runs]) hs hc
  refine ⟨fun hc => hn.out_of_range hs hp hc, fun c hc => ⟨fun hop ha => hn.absent hs hc hop ha,
    fun hname => ⟨fun h => ?_, fun h => ⟨fun hr hpa => ?_, fun p hst hrec hno => ?_⟩⟩⟩⟩
  · rw [hacts hname, adjustAct_problem (hout h), answer_refused]
  · rw [hacts hname, adjustAct_inRange (hin h), adjustCurrent_stopped (s := heard s) hr hpa,
      answer_wrongState]
  · rw [hacts hname, adjustAct_inRange (hin h), adjustCurrent_stage (s := heard s) hst hrec,
      hsuits c p hno, unsuited, answer_refused]

/-- Settles O25: the three adjustments through the same checks, any other code by its own. -/
theorem adjustsAreCheckedInOrder : Obligations.AdjustsAreCheckedInOrder := by
  intro tag code v s hs hp r
  refine ⟨?_, ?_, ?_, ?_⟩
  · refine adjust_refuses (adjustTime_names tag code v) hs hp (fun h => if_pos ?_) (fun h => if_neg ?_)
      fun c p hno => adjustTime_unsuited (s := heard s) hno
    all_goals omega
  · refine adjust_refuses (adjustLevel_names tag code v) hs hp (fun h => if_pos ?_) (fun h => if_neg ?_)
      fun c p hno => adjustLevel_unsuited hno
    all_goals omega
  · refine adjust_refuses (adjustSetpoint_names tag code v) hs hp (fun h => if_pos ?_)
      (fun h => if_neg ?_) fun c p hno => adjustSetpoint_unsuited hno
    all_goals omega
  · intro other value hother hlen body q i
    have hn := adjust_names (i := i) rfl hlen
    have hproblem (u : Nat) (w : Int) : adjustProblem other.toNat u w = some 2 := by
      obtain ⟨k, hk⟩ := Nat.exists_eq_add_of_le' hother
      rw [hk]; rfl
    refine ⟨fun hc => hn.out_of_range hs hp hc, fun c hc => ⟨fun hop ha => hn.absent hs hc hop ha,
      fun hname => ?_⟩⟩
    rw [hn.acts_always (by simp [runs]) hs hname, adjustAct_problem (hproblem _ _), answer_refused]

end Sys2Proof.Proofs
end

section
/-! ADJUST TIME, ADJUST LEVEL and ADJUST SETPOINT (R43, R44, R46, R47, R90): what each does when it is
accepted. -/

namespace Sys2Proof.Proofs

open Sys2Proof Sys2Proof.Machine Sys2Proof.Claims

/-! ## ADJUST TIME -/

/-- The unrun part of a stage with n seconds left: on a RAMP that of its last segment (R44). -/
def unrunPart (r : ChannelRec) (p : StageSpec) (n : Nat) : Nat :=
  match p.kind with
  | .ramp _ _ l =>
    if r.segIndex + 1 = r.segCount then n else p.duration - (r.segCount - 1) * l
  | .level _ | .wait | .bake _ _ | .flame => n

/-- The effective delta is the limited one of the unrun part (R43, R44). -/
theorem adjustDelta_eq (r : ChannelRec) (p : StageSpec) (n : Nat) (d : Int) :
    adjustDelta r p n d = limited (unrunPart r p n) p.duration d := by
  unfold adjustDelta unrunPart
  cases p.kind with
  | ramp => exact (congrArg (fun u : Int => limited u p.duration d) (Nat.cast_ite _ _ _)).symm
  | level | wait | bake | flame => rfl

theorem adjustTime_moves {c : Channel} {d : Int} {p : PoolRecord} {n : Nat} {s : State}
    (hn : (s.chan c).remaining = .timed n) :
    adjustTime c d p s =
      accepted (adjustReply c 0 n (n + adjustDelta (s.chan c) p.spec n d).toNat
          (addTime c n (adjustDelta (s.chan c) p.spec n d) s))
        (addTime c n (adjustDelta (s.chan c) p.spec n d) s) := by
  unfold adjustTime
  rw [hn]

/-- Settles O26: the effective delta by adjustDelta_eq, the record it leaves by addTime_eq. -/
theorem adjustTimeMovesTheStageEnd : Obligations.AdjustTimeMovesTheStageEnd := by
  intro tag code d c p n s hs hname hst hn hp hlow hhigh r unrun e
  have hinRange : adjustProblem 0 d.toNat d.toInt = none := if_neg (by omega)
  have hdelta : adjustDelta ((heard s).chan c) p.spec n d.toInt = e := adjustDelta_eq r p.spec n d.toInt
  have hstage : adjustStage 0 d.toNat d.toInt c p (heard s) = _ := adjustTime_moves (s := heard s) hn
  rw [(adjustTime_names tag code d).acts_always (by simp [runs]) hs hname, adjustAct_inRange hinRange,
    adjustCurrent_stage (s := heard s) hst hp, hstage, hdelta, answer_accepted, addTime_eq]
  simp only [adjustReply, State.setChan_chan_self]
  rfl

/-! ## A change of the kind of the current stage -/

/-- The current stage of c gets another kind, and its target-reached flag stays only if it may. -/
def kindWritten (c : Channel) (kind : StageKind) (keep : Bool) (s : State) : State :=
  s.setChan c { s.chan c with
    plan := (s.chan c).plan.modify (s.chan c).stageIndex (fun q =>
      { q with spec := { q.spec with kind := kind }, targetReached := q.targetReached && keep }) }

theorem changeCurrent_kind (c : Channel) (kind : StageKind) (s : State) :
    changeCurrent c (fun p => { p with kind := kind }) s = kindWritten c kind true s := by
  simp only [kindWritten, Bool.and_true]
  rfl

/-- Clearing the target-reached flag afterwards. -/
theorem kindWritten_clear (kind : StageKind) (s : State) (x : Ovr) :
    ((kindWritten .ov kind true s).withOvr x).setChan .ov
        ((((kindWritten .ov kind true s).withOvr x).chan .ov).modifyRecord
          (((kindWritten .ov kind true s).withOvr x).chan .ov).stageIndex
          (fun p => { p with targetReached := false })) =
      (kindWritten .ov kind false s).withOvr x := by
  simp only [kindWritten, ChannelRec.modifyRecord, State.withOvr_chan, State.setChan_chan_self,
    List.modify_modify_eq, Bool.and_false]
  rfl

/-! ## ADJUST LEVEL and ADJUST SETPOINT -/

theorem adjustLevel_sets {c : Channel} {p : PoolRecord} {old n : Nat} {s : State}
    (hk : p.spec.kind = .level old) :
    adjustLevel c n p s = accepted
      (adjustReply c 1 old n (sync c (kindWritten c (.level n) true s)))
      (sync c (kindWritten c (.level n) true s)) := by
  unfold adjustLevel setLevel
  rw [hk, changeCurrent_kind]

/-- A new setpoint is written, and OVR checks it against T_f (R90). -/
theorem setSetpoint_eq (m : Mode) (t : Nat) (s : State) :
    setSetpoint m t s = targetCheck (overshootCut
      ((kindWritten .ov (.bake m t) (s.tempF.any fun f => decide (t ≤ f)) s).withOvr
        { s.ovr with setpoint := t })) := by
  unfold setSetpoint
  dsimp only
  rw [changeCurrent_kind]
  have hat : atTarget ((kindWritten .ov (.bake m t) true s).withOvr { s.ovr with setpoint := t }) =
      s.tempF.any fun f => decide (t ≤ f) := by
    have htemp : ((kindWritten .ov (.bake m t) true s).withOvr { s.ovr with setpoint := t }).tempF =
        s.tempF := rfl
    unfold atTarget
    rw [htemp]
    cases s.tempF <;> rfl
  have hovr : (kindWritten .ov (.bake m t) true s).ovr = s.ovr := rfl
  rw [hovr]
  cases hf : s.tempF.any fun f => decide (t ≤ f) with
  | true => rw [hat, hf, if_pos rfl]
  | false => rw [hat, hf, if_neg Bool.false_ne_true, kindWritten_clear]

theorem adjustSetpoint_sets {p : PoolRecord} {m : Mode} {old t : Nat} {s : State}
    (hk : p.spec.kind = .bake m old) :
    adjustSetpoint .ov t p s = accepted
      (adjustReply .ov 2 old t (setSetpoint m t s)) (setSetpoint m t s) := by
  unfold adjustSetpoint
  rw [hk]
  rfl

/-- Settles O27: each value is written in the record, and the rest of the event follows. -/
theorem adjustLevelAndSetpointAct : Obligations.AdjustLevelAndSetpointAct := by
  intro tag code v c p s hs hname hst hp r write reply
  refine ⟨?_, ?_⟩
  · intro old hk hlow hhigh u
    have hinRange : adjustProblem 1 v.toNat v.toInt = none := if_neg (by omega)
    have hstage : adjustStage 1 v.toNat v.toInt c p (heard s) = _ := adjustLevel_sets hk
    rw [(adjustLevel_names tag code v).acts_always (by simp [runs]) hs hname,
      adjustAct_inRange hinRange, adjustCurrent_stage (s := heard s) hst hp, hstage, answer_accepted]
    rfl
  · rintro m old rfl hk hlow hhigh w u
    have hinRange : adjustProblem 2 v.toNat v.toInt = none := if_neg (by omega)
    have hstage : adjustStage 2 v.toNat v.toInt .ov p (heard s) = _ := adjustSetpoint_sets hk
    rw [(adjustSetpoint_names tag code v).acts_always (by simp [runs]) hs hname,
      adjustAct_inRange hinRange, adjustCurrent_stage (s := heard s) hst hp, hstage, answer_accepted,
      setSetpoint_eq]
    rfl

end Sys2Proof.Proofs
end

section
/-! The seconds of a channel (R30, R33, R36, R41). -/

namespace Sys2Proof.Proofs

open Sys2Proof Sys2Proof.Machine Sys2Proof.Claims

variable {c : Channel} {s : State}

/-! ## The end of the current stage -/

/-- The current stage ends and the next is entered (R33). -/
theorem endCurrent_eq {p : PoolRecord} (cause : EndCause)
    (hp : (s.chan c).plan[(s.chan c).stageIndex]? = some p) :
    endCurrent c cause s = enterStage c ((s.chan c).stageIndex + 1)
      (ended c (s.chan c).stageIndex p.spec cause s) := by
  rw [← endStage_eq c _ cause s p hp]; rfl

/-- The pause expires: the current stage is cut, and the plan ends (R36). -/
theorem expirePause_eq {p : PoolRecord} (hp : (s.chan c).plan[(s.chan c).stageIndex]? = some p) :
    expirePause c s = sync c (finishPlan c .pauseExpired (s.chan c).stageIndex
      (ended c (s.chan c).stageIndex p.spec .cut s)) := by
  rw [← endStage_eq c _ .cut s p hp]; rfl

/-! ## The second timer -/

theorem nextSecond_chan (c : Channel) (s : State) :
    (nextSecond c s).chan c = { s.chan c with secondTimer := some 0 } := State.setChan_chan_self _ _ _

/-- The record after a second of a timed stage with n seconds left. -/
theorem nextSecond_setChan (c : Channel) (s : State) (left : Remaining) :
    (nextSecond c s).setChan c { (nextSecond c s).chan c with remaining := left } =
      s.setChan c { s.chan c with secondTimer := some 0, remaining := left } := by
  rw [nextSecond_chan, nextSecond, setChan_setChan]

theorem channelTick_untimed (h : (s.chan c).remaining = .untimed) : channelTick c s = s := by
  unfold channelTick; rw [h]

theorem channelTick_timed {n : Nat} (h : (s.chan c).remaining = .timed n) :
    channelTick c s =
      if n - 1 = 0 then
        sync c (endCurrent c .elapsed (s.setChan c { s.chan c with remaining := .timed (n - 1) }))
      else
        advanceSegment c (n - 1) (s.setChan c { s.chan c with remaining := .timed (n - 1) }) := by
  unfold channelTick; rw [h]

/-- The current segment of a RAMP has another after it, which starts at this remaining time (R41). -/
def segmentEnds (r : ChannelRec) (p : StageSpec) (left : Nat) : Prop :=
  ∃ a b l, p.kind = .ramp a b l ∧ r.segIndex + 1 < r.segCount ∧
    left = (p.duration - (r.segCount - 1) * l) + (r.segCount - 2 - r.segIndex) * l

section

variable {p : PoolRecord} {left : Nat} (hp : (s.chan c).plan[(s.chan c).stageIndex]? = some p)
include hp

theorem advanceSegment_stays (h : ¬ segmentEnds (s.chan c) p.spec left) :
    advanceSegment c left s = s := by
  have hcur : (s.chan c).current = some p := hp
  unfold advanceSegment
  dsimp only
  rw [hcur]
  dsimp only
  split
  next a b l hk => exact if_neg fun hseg => h ⟨a, b, l, hk, hseg⟩
  all_goals rfl

theorem advanceSegment_moves (h : segmentEnds (s.chan c) p.spec left) :
    advanceSegment c left s =
      sync c (s.setChan c { s.chan c with segIndex := (s.chan c).segIndex + 1 }) := by
  have hcur : (s.chan c).current = some p := hp
  obtain ⟨a, b, l, hk, hseg⟩ := h
  unfold advanceSegment
  dsimp only
  rw [hcur]
  dsimp only
  rw [hk]
  exact if_pos hseg

end

/-! ## The events -/

theorem channelSecond_runs {k : Nat} (hr : (s.chan c).state = .running)
    (hk : (s.chan c).secondTimer = some k) :
    exec (.channelSecond c) s = .next (channelTick c (nextSecond c s)) :=
  congrArg _ (if_pos ⟨hr, by simp [hk]⟩)

theorem channelSecond_stopped (h : (s.chan c).state ≠ .running ∨ (s.chan c).secondTimer = none) :
    exec (.channelSecond c) s = .next s :=
  congrArg _ (if_neg fun ⟨hr, hk⟩ => h.elim (fun hn => hn hr) fun hn => by simp [hn] at hk)

theorem stageElapsed_runs {k n : Nat} (hr : (s.chan c).state = .running)
    (hk : (s.chan c).secondTimer = some k) (hn : (s.chan c).remaining = .timed n) :
    exec (.stageElapsed c) s = .next (sync c (endCurrent c .elapsed
      (s.setChan c { s.chan c with secondTimer := some 0, remaining := .timed 0 }))) := by
  rw [← nextSecond_setChan]
  exact congrArg _ (if_pos ⟨hr, by simp [hk], by simp [hn]⟩)

theorem stageElapsed_stopped (h : (s.chan c).state ≠ .running ∨ (s.chan c).secondTimer = none ∨
    (s.chan c).remaining = .untimed) : exec (.stageElapsed c) s = .next s := by
  refine congrArg _ (if_neg ?_)
  rintro ⟨hr, hk, hn⟩
  obtain h | h | h := h
  · exact h hr
  · simp [h] at hk
  · exact hn h

/-- A second of a timed stage, by what is left of the stage. -/
theorem channelSecond_timed {k n : Nat} (hr : (s.chan c).state = .running)
    (hk : (s.chan c).secondTimer = some k) (hn : (s.chan c).remaining = .timed n) :
    exec (.channelSecond c) s =
      if n - 1 = 0 then exec (.stageElapsed c) s
      else .next (advanceSegment c (n - 1)
        (s.setChan c { s.chan c with secondTimer := some 0, remaining := .timed (n - 1) })) := by
  have hleft : ((nextSecond c s).chan c).remaining = .timed n := by rw [nextSecond_chan]; exact hn
  rw [channelSecond_runs hr hk, channelTick_timed hleft, nextSecond_setChan, stageElapsed_runs hr hk hn]
  split
  next h => rw [h]
  next => rfl

theorem pauseExpiry_runs {t : PauseTimer} (h : (s.chan c).pauseTimer = some t) :
    exec (.pauseExpiry c) s = .next (expirePause c s) := congrArg _ (if_pos (by simp [h]))

theorem pauseExpiry_stopped (h : (s.chan c).pauseTimer = none) : exec (.pauseExpiry c) s = .next s :=
  congrArg _ (if_neg (by simp [h]))

theorem pauseTimerSecond_runs {t : PauseTimer} (h : (s.chan c).pauseTimer = some t) :
    exec (.pauseTimerSecond c) s = .next (if t.left ≤ 1 then expirePause c s
      else s.setChan c { s.chan c with pauseTimer := some { left := t.left - 1, phase := 0 } }) := by
  show execPauseTimerSecond c s = _
  unfold execPauseTimerSecond
  rw [h]

theorem pauseTimerSecond_stopped (h : (s.chan c).pauseTimer = none) :
    exec (.pauseTimerSecond c) s = .next s := by
  show execPauseTimerSecond c s = _
  unfold execPauseTimerSecond
  rw [h]

/-- A second of a timed stage in the terms of the obligation: another second, another segment, or the end
of the stage. -/
theorem channelSecond_cases {k n : Nat} {p : PoolRecord} (hr : (s.chan c).state = .running)
    (hk : (s.chan c).secondTimer = some k) (hn : (s.chan c).remaining = .timed n)
    (hp : (s.chan c).plan[(s.chan c).stageIndex]? = some p) :
    let ran : ChannelRec := { s.chan c with secondTimer := some 0, remaining := .timed (n - 1) }
    (2 ≤ n → ¬ segmentEnds (s.chan c) p.spec (n - 1) →
      exec (.channelSecond c) s = .next (s.setChan c ran)) ∧
    (2 ≤ n → segmentEnds (s.chan c) p.spec (n - 1) → exec (.channelSecond c) s =
      .next (sync c (s.setChan c { ran with segIndex := (s.chan c).segIndex + 1 }))) ∧
    (n ≤ 1 → exec (.channelSecond c) s = exec (.stageElapsed c) s) := by
  intro ran
  have hran : (s.setChan c ran).chan c = ran := State.setChan_chan_self _ _ _
  have hcur : ((s.setChan c ran).chan c).plan[((s.setChan c ran).chan c).stageIndex]? = some p := by
    rw [hran]; exact hp
  rw [channelSecond_timed hr hk hn]
  refine ⟨fun h2 hno => ?_, fun h2 hends => ?_, fun h1 => if_pos (by omega)⟩
  · rw [if_neg (by omega), advanceSegment_stays hcur (by rw [hran]; exact hno)]
  · rw [if_neg (by omega), advanceSegment_moves hcur (by rw [hran]; exact hends), hran, setChan_setChan]

/-- Settles O32: the second timer by channelSecond_cases, the pause timer by its two events. -/
theorem secondsRunTheStage : Obligations.SecondsRunTheStage := by
  intro c s r i
  refine ⟨fun k hr hk => ⟨fun hn => ⟨?_, stageElapsed_stopped (.inr (.inr hn))⟩, ?_⟩,
    fun h => ⟨channelSecond_stopped h, stageElapsed_stopped (h.imp_right .inl)⟩, fun t ht => ⟨?_, ?_, ?_⟩,
    fun h => ⟨pauseTimerSecond_stopped h, pauseExpiry_stopped h⟩⟩
  · have hleft : ((nextSecond c s).chan c).remaining = .untimed := by rw [nextSecond_chan]; exact hn
    rw [channelSecond_runs hr hk, channelTick_untimed hleft]
    rfl
  · intro p n hp hn ran boundary
    obtain ⟨hstays, hmoves, hends⟩ := channelSecond_cases hr hk hn hp
    refine ⟨hstays, hmoves, hends, ?_⟩
    have hcur : ((s.setChan c { r with secondTimer := some 0, remaining := .timed 0 }).chan c) =
        { r with secondTimer := some 0, remaining := .timed 0 } := State.setChan_chan_self _ _ _
    rw [stageElapsed_runs hr hk hn, endCurrent_eq (p := p) .elapsed (by rw [hcur]; exact hp), hcur]
  · intro h2
    rw [pauseTimerSecond_runs ht, if_neg (by omega)]
  · intro h1
    rw [pauseTimerSecond_runs ht, if_pos h1, pauseExpiry_runs ht]
  · intro p hp v
    rw [pauseExpiry_runs ht, expirePause_eq hp, finishPlan_eq]
    rfl

end Sys2Proof.Proofs
end

section
/-! The end of an event at OV (R49, R66, R82, R86, R95, R96). -/

namespace Sys2Proof.Proofs

open Sys2Proof Sys2Proof.Machine Sys2Proof.Claims

/-! ## The rank order -/

/-- The rank of an oven heater (R57). -/
def ovenRank (s : State) (o : OvenHeater) : Nat := (s.install (ovenHeaterAsHeater o)).rank

/-- The installed heaters stand once each, by their ranks. -/
theorem rankOrder_pairwise (s : State) :
    (rankOrder s).Pairwise fun g h => (s.install g).rank ≤ (s.install h).rank ∧ g ≠ h := by
  have hrank {r : Nat} {h : Heater}
      (hh : h ∈ allHeaters.filter fun h => (s.install h).installed && (s.install h).rank == r) :
      (s.install h).rank = r := by
    obtain ⟨-, hkeep⟩ := List.mem_filter.1 hh
    simp only [Bool.and_eq_true, beq_iff_eq] at hkeep
    exact hkeep.2
  refine List.pairwise_flatMap.2 ⟨fun r _ => ?_, ?_⟩
  · refine List.Pairwise.imp_of_mem (fun hg hh hne => ⟨?_, hne⟩) (nodup_allHeaters.filter _)
    rw [hrank hg, hrank hh]
  · refine List.pairwise_lt_range.imp fun hlt g hg h hh => ?_
    rw [hrank hg, hrank hh]
    exact ⟨hlt.le, by rintro rfl; exact hlt.ne ((hrank hg).symm.trans (hrank hh))⟩

theorem ovenRankOrder_pairwise (s : State) :
    (ovenRankOrder s).Pairwise fun o p => ovenRank s o ≤ ovenRank s p ∧ o ≠ p := by
  refine List.Pairwise.filterMap _ (fun g h hgh o ho p hp => ?_) (rankOrder_pairwise s)
  obtain ⟨hle, hne⟩ := hgh
  rw [asOvenHeater_iff] at ho hp
  subst ho hp
  exact ⟨hle, fun h => hne (congrArg _ h)⟩

/-- Where the installed oven heaters have distinct ranks, their rank order is the only one. -/
theorem eq_ovenRankOrder {s : State} (hranks : ∀ h, (s.install h).rank ≤ 6) {order : List OvenHeater}
    (hmem : ∀ o, o ∈ order ↔ (s.install (ovenHeaterAsHeater o)).installed = true)
    (hsorted : order.Pairwise fun o p => ovenRank s o < ovenRank s p) : order = ovenRankOrder s := by
  have horder := ovenRankOrder_pairwise s
  have hmem' (o : OvenHeater) : o ∈ order ↔ o ∈ ovenRankOrder s := by
    rw [hmem, mem_ovenRankOrder]; exact (and_iff_left (hranks _)).symm
  have hsymm : Std.Symm fun o p => ovenRank s o ≠ ovenRank s p := ⟨fun _ _ h => h.symm⟩
  have hdistinct : order.Pairwise fun o p => ovenRank s o ≠ ovenRank s p := hsorted.imp fun h => h.ne
  refine List.Perm.eq_of_pairwise (fun o p ho hp hop hpo => ?_) (hsorted.imp fun h => h.le)
    (horder.imp fun h => h.1) ((List.perm_ext_iff_of_nodup ?_ ?_).2 hmem')
  · by_contra hne
    exact hdistinct.forall ho ((hmem' p).2 hp) hne (hop.antisymm hpo)
  · exact hsorted.imp fun h => by rintro rfl; exact h.ne rfl
  · exact horder.imp fun h => h.2

/-! ## Handing the demands -/

/-- Each oven heater is handed its demand at most once, so what differs is read from the demands handed
before. -/
theorem foldl_handDemand (demand : OvenHeater → Nat) (was : PerOven Nat) {l : List OvenHeater}
    (hl : l.Nodup) {u : State} (hu : ∀ o ∈ l, u.ovr.handed.get o = was.get o) :
    l.foldl (fun t o => handDemand o (demand o) t) u =
      l.foldl (fun t o => if was.get o = demand o then t
        else demandChange (ovenHeaterAsHeater o) (demand o)
          (t.withOvr { t.ovr with handed := t.ovr.handed.set o (demand o) })) u := by
  induction l generalizing u with
  | nil => rfl
  | cons o l ih =>
    obtain ⟨hnot, hnodup⟩ := List.nodup_cons.1 hl
    have hstep : handDemand o (demand o) u = if was.get o = demand o then u
        else demandChange (ovenHeaterAsHeater o) (demand o)
          (u.withOvr { u.ovr with handed := u.ovr.handed.set o (demand o) }) := by
      rw [← hu o List.mem_cons_self]; rfl
    rw [List.foldl_cons, List.foldl_cons, ← hstep]
    refine ih hnodup fun p hp => ?_
    rw [handDemand_handed, if_neg (by rintro rfl; exact hnot hp)]
    exact hu p (List.mem_cons_of_mem o hp)

theorem handAll_unhanded (s : State) : unhanded (handAll s).ovr = unhanded s.ovr :=
  foldl_keeps (g := fun t : State => unhanded t.ovr)
    (fun t o => (unhanded_of_fanless (handDemand_fanless o _ t)).trans rfl) _ s

/-! ## The oven fan and the lamp -/

theorem bakeRunning_eq (s : State) :
    bakeRunning s = decide ((s.chan .ov).state = .running ∧ s.ovr.context = .bake) :=
  (Bool.decide_and _ _).symm

/-- The oven fan and the lamp do not depend on what has been handed. -/
theorem refreshOven_of_unhanded {s t : State} (hc : t.chan .ov = s.chan .ov)
    (ho : unhanded t.ovr = unhanded s.ovr) :
    refreshOven t = t.withOvr { t.ovr with ovenFan := ovenFanValue s, lamp := lampValue s } := by
  have hovr := eq_of_unhanded ho
  have hbake : bakeRunning t = bakeRunning s := by unfold bakeRunning; rw [hc, hovr]
  have hfan : ovenFanValue t = ovenFanValue s := by unfold ovenFanValue; rw [hbake, hovr]
  have hlamp : lampValue t = lampValue s := by unfold lampValue; rw [hbake, hovr]
  rw [refreshOven, hfan, hlamp]

/-- Settles O41: the rank order is the one given, and each heater is handed once. -/
theorem eventsHandOnTheOven : Obligations.EventsHandOnTheOven := by
  intro s hranks v bakes outputs order hmem hsorted
  have hrankOrder : order = ovenRankOrder v :=
    (eq_ovenRankOrder hranks hmem hsorted).trans (ovenRankOrder_congr (ovenTaken_cfg s)).symm
  have hnodup : (ovenRankOrder v).Nodup := (ovenRankOrder_pairwise v).imp fun h => h.2
  have hfold : handAll v = _ := foldl_handDemand (heaterDemand v) v.ovr.handed hnodup fun _ _ => rfl
  have hstate : (v.chan .ov).state = (s.chan .ov).state := by
    rw [show v.chan .ov = s.chan .ov from ovenTaken_chan s .ov]
  have hbake : bakeRunning v = decide bakes := by rw [bakeRunning_eq, hstate]
  calc sync .ov s = refreshOven (handAll v) := syncOven_eq s
    _ = outputs (handAll v) := by
      rw [refreshOven_of_unhanded (s := v) (by simp) (handAll_unhanded v), ovenFanValue, lampValue, hbake]
    _ = _ := by rw [hfold, hrankOrder]

end Sys2Proof.Proofs
end

section
/-! The target and the overshoot limit (R34, R62, R87, R91). -/

namespace Sys2Proof.Proofs

open Sys2Proof Sys2Proof.Machine Sys2Proof.Claims

variable {s : State}

/-! ## The target -/

theorem targetCheck_idle (h : ¬ (bakeRunning s = true ∧ atTarget s = true)) : targetCheck s = s :=
  if_neg h

/-- A BAKE stage that has come to its target (R87): nothing where the target is found already. -/
theorem targetCheck_reached (hb : bakeRunning s = true) (ht : atTarget s = true) {p : PoolRecord}
    {m : Mode} {t : Nat} (hp : (s.chan .ov).plan[(s.chan .ov).stageIndex]? = some p)
    (hk : p.spec.kind = .bake m t) :
    targetCheck s =
      if p.targetReached then s
      else if p.spec.endOnTarget then sync .ov (endCurrent .ov .target (findTarget s))
      else findTarget s := by
  have hopen : openTarget s = if p.targetReached then none else some p.spec.endOnTarget := by
    have hcur : (s.chan .ov).current = some p := hp
    unfold openTarget
    simp only [hcur, hk]
  unfold targetCheck
  rw [if_pos ⟨hb, ht⟩, hopen]
  cases p.targetReached <;> rfl

/-- The end of the stage whose target has been found. -/
theorem endCurrent_reached {p : PoolRecord}
    (hp : (s.chan .ov).plan[(s.chan .ov).stageIndex]? = some p) :
    endCurrent .ov .target (findTarget s) =
      enterStage .ov ((s.chan .ov).stageIndex + 1)
        (ended .ov (s.chan .ov).stageIndex p.spec .target (reached (s.chan .ov).stageIndex s)) := by
  have hchan : (reached (s.chan .ov).stageIndex s).chan .ov =
      (s.chan .ov).modifyRecord (s.chan .ov).stageIndex fun p => { p with targetReached := true } := by
    simp [reached, ChannelRec.modifyRecord]
  have hindex : ((reached (s.chan .ov).stageIndex s).chan .ov).stageIndex = (s.chan .ov).stageIndex := by
    rw [hchan]; rfl
  have hrecord : ((reached (s.chan .ov).stageIndex s).chan .ov).plan[
      ((reached (s.chan .ov).stageIndex s).chan .ov).stageIndex]? =
        some { p with targetReached := true } := by
    rw [hindex, hchan]; simp [ChannelRec.modifyRecord, hp]
  rw [findTarget_eq, endCurrent_eq .target hrecord, hindex]

/-! ## The overshoot limit -/

theorem overshootCut_cold (h : s.tempF = none) : overshootCut s = s := by unfold overshootCut; rw [h]

theorem overshootCut_of_tempF {f : Nat} (h : s.tempF = some f) :
    overshootCut s =
      if bakeRunning s = true ∧ s.ovr.setpoint + s.cfg.overshoot ≤ f then
        handZeros (ovenRankOrder s) s
      else s := by
  unfold overshootCut; rw [h]; rfl

/-- Heaters that have no demand handed are not touched. -/
theorem handZeros_eq_self {l : List OvenHeater} (h : ∀ o ∈ l, s.ovr.handed.get o = 0) :
    handZeros l s = s := by
  induction l with
  | nil => rfl
  | cons o l ih =>
    have hstep : handDemand o 0 s = s := if_pos (h o List.mem_cons_self)
    show handZeros l (handDemand o 0 s) = s
    rw [hstep]
    exact ih fun p hp => h p (List.mem_cons_of_mem o hp)

/-- Handing 0 to the oven heaters silences OV. -/
theorem handZeros_silences (s : State) : Silences (· = .ov) s (handZeros (ovenRankOrder s) s) where
  toDrops := handZeros_drops _ s
  hob c h hc := ⟨fun hov => absurd (hov ▸ hc) (by simp [hobHeater]),
    fun _ => handZeros_heater_other _ (hob_ne_oven hc) s⟩
  oven o := by
    rw [handZeros_handed, handZeros_heater]
    refine ⟨fun _ ho => ⟨if_pos ho, fun hne => if_pos ⟨ho, hne⟩⟩, fun hcase => ?_⟩
    have hrest := hcase.resolve_left fun h => h rfl
    constructor
    · split
      next ho => exact (hrest.resolve_left fun h => h ho).symm
      next => rfl
    · exact if_neg fun ⟨ho, hne⟩ => hne (hrest.resolve_left fun h => h ho)
  chans c _ := foldl_keeps (g := fun t : State => t.chan c) (fun t o => by simp) _ s

/-- Handing 0 writes PFS, OUT and OVR alone. -/
theorem handZeros_eq (l : List OvenHeater) (s : State) :
    handZeros l s = { s with
      pfs := (handZeros l s).pfs, out := (handZeros l s).out, ovr := (handZeros l s).ovr } := by
  induction l generalizing s with
  | nil => rfl
  | cons o l ih =>
    have hstep : handDemand o 0 s = { s with
        pfs := (handDemand o 0 s).pfs, out := (handDemand o 0 s).out, ovr := (handDemand o 0 s).ovr } := by
      have hframe := handDemand_frame o 0 s
      obtain ⟨hpins, hlnk, hcfg, hpst, hplr, hbsv, hntq, hdrawn, hpending, -⟩ := hframe
      rw [← hpins, ← hlnk, ← hcfg, ← hpst, ← hplr, ← hbsv, ← hntq, ← hdrawn, ← hpending]
    show handZeros l (handDemand o 0 s) = { s with
      pfs := (handZeros l (handDemand o 0 s)).pfs
      out := (handZeros l (handDemand o 0 s)).out
      ovr := (handZeros l (handDemand o 0 s)).ovr }
    rw [ih, hstep]

/-- Settles O43: the target by targetCheck_reached, the overshoot limit by the handing of 0. -/
theorem targetAndOvershootAct : Obligations.TargetAndOvershootAct := by
  intro s hranks bakes i
  refine ⟨fun h => ?_, fun f hf hb => ⟨fun hlow => ?_, fun p m t hat hp hk => ?_, fun hlow => ?_, ?_⟩⟩
  · have hidle : ¬ (bakeRunning s = true ∧ atTarget s = true) := by
      rw [bakeRunning_iff, atTarget_iff]
      rintro ⟨hb, f, hf, -⟩
      exact h.elim (fun hn => hn hb) fun hn => by simp [hn] at hf
    refine ⟨targetCheck_idle hidle, ?_⟩
    cases hf : s.tempF with
    | none => exact overshootCut_cold hf
    | some f =>
      have hn : ¬ bakes := h.resolve_right (by simp [hf])
      rw [overshootCut_of_tempF hf, if_neg fun hcut => hn ((bakeRunning_iff s).1 hcut.1)]
  · refine targetCheck_idle fun ⟨_, hat⟩ => ?_
    obtain ⟨g, hg, hle⟩ := (atTarget_iff s).1 hat
    obtain rfl : f = g := Option.some.inj (hf.symm.trans hg)
    omega
  · rw [targetCheck_reached ((bakeRunning_iff s).2 hb) ((atTarget_iff s).2 ⟨f, hf, hat⟩) hp hk,
      endCurrent_reached hp, findTarget_eq]
  · rw [overshootCut_of_tempF hf, if_neg fun hcut => absurd hcut.2 (by omega)]
  · intro hhigh t
    have ht : t = handZeros (ovenRankOrder s) s :=
      (overshootCut_of_tempF hf).trans (if_pos ⟨(bakeRunning_iff s).2 hb, hhigh⟩)
    have hsilences := handZeros_silences s
    rw [ht]
    refine ⟨hsilences.demandsDropped, fun hzero => handZeros_eq_self fun o ho => ?_,
      eq_of_unhanded (handZeros_unhanded _ s), hsilences.pfs, hsilences.out, handZeros_eq _ s⟩
    exact hzero o ((mem_ovenRankOrder s o).1 ho).1

end Sys2Proof.Proofs
end

section
/-! The walks of the power frame (R58, R63): what one leaves, and which slots it visits. -/

namespace Sys2Proof.Proofs

open Sys2Proof Sys2Proof.Machine Sys2Proof.Claims

/-! ## Slots -/

theorem slots_get_set {α : Type} (v : Slots α) (i j : Fin 32) (x : α) :
    (v.set i x).get j = if j = i then x else v.get j := by
  simp only [Vector.get_eq_getElem, Vector.getElem_set, Fin.ext_iff, eq_comm]

@[simp] theorem noSlots_get (i : Fin 32) : noSlots.get i = false := by
  simp [noSlots, Vector.get_eq_getElem]

/-! ## What a walk leaves -/

/-- The slots that a walk takes: the first with room, as many as are still asked. -/
def takenSlots (P d : Nat) (order : List (Fin 32)) (w : Placement) : List (Fin 32) :=
  (order.filter fun i => decide (P ≤ w.capacity.get i)).take (d - w.granted)

section

variable {P d : Nat} {i : Fin 32} {order : List (Fin 32)} {w : Placement}

/-- A placement after slot i has been taken. -/
def slotTaken (P : Nat) (i : Fin 32) (w : Placement) : Placement :=
  { capacity := w.capacity.set i (w.capacity.get i - P)
    placed := w.placed.set i true
    granted := w.granted + 1 }

theorem slotTaken_granted (P : Nat) (i : Fin 32) (w : Placement) :
    (slotTaken P i w).granted = w.granted + 1 := rfl

theorem slotTaken_placed (P : Nat) (i j : Fin 32) (w : Placement) :
    (slotTaken P i w).placed.get j = if j = i then true else w.placed.get j := slots_get_set _ _ _ _

theorem slotTaken_capacity (P : Nat) (i j : Fin 32) (w : Placement) :
    (slotTaken P i w).capacity.get j = if j = i then w.capacity.get i - P else w.capacity.get j :=
  slots_get_set _ _ _ _

theorem placeWalk_takes (h : w.granted < d ∧ P ≤ w.capacity.get i) :
    placeWalk P d (i :: order) w = placeWalk P d order (slotTaken P i w) := if_pos h

theorem placeWalk_passes (h : ¬ (w.granted < d ∧ P ≤ w.capacity.get i)) :
    placeWalk P d (i :: order) w = placeWalk P d order w := if_neg h

/-- A slot taken leaves the room of the slots still to visit. -/
theorem takenSlots_takes (h : w.granted < d ∧ P ≤ w.capacity.get i) (hi : i ∉ order) :
    takenSlots P d (i :: order) w = i :: takenSlots P d order (slotTaken P i w) := by
  obtain ⟨hasked, hroom⟩ := h
  have hsame : order.filter (fun j => decide (P ≤ (slotTaken P i w).capacity.get j)) =
      order.filter fun j => decide (P ≤ w.capacity.get j) := by
    refine List.filter_congr fun j hj => ?_
    rw [slotTaken_capacity, if_neg (by rintro rfl; exact hi hj)]
  have hcount : d - w.granted = d - (slotTaken P i w).granted + 1 := by
    rw [slotTaken_granted]; omega
  rw [takenSlots, List.filter_cons_of_pos (by simpa using hroom), hcount, List.take_succ_cons, takenSlots,
    hsame]

theorem takenSlots_passes (h : ¬ (w.granted < d ∧ P ≤ w.capacity.get i)) :
    takenSlots P d (i :: order) w = takenSlots P d order w := by
  by_cases hroom : P ≤ w.capacity.get i
  · have hnone : d - w.granted = 0 := Nat.sub_eq_zero_of_le (not_lt.1 fun hasked => h ⟨hasked, hroom⟩)
    rw [takenSlots, takenSlots, hnone, List.take_zero, List.take_zero]
  · rw [takenSlots, List.filter_cons_of_neg (by simpa using hroom), takenSlots]

theorem mem_of_mem_takenSlots (h : i ∈ takenSlots P d order w) : i ∈ order :=
  (List.mem_filter.1 (List.mem_of_mem_take h)).1

/-- A slot taken had room. -/
theorem room_of_mem_takenSlots (h : i ∈ takenSlots P d order w) : P ≤ w.capacity.get i :=
  of_decide_eq_true (List.mem_filter.1 (List.mem_of_mem_take h)).2

end

/-- A walk takes just these slots: it counts them, marks them and lowers their capacity (R58). -/
theorem placeWalk_spec (P d : Nat) {order : List (Fin 32)} (horder : order.Nodup) (w : Placement) :
    (placeWalk P d order w).granted = w.granted + (takenSlots P d order w).length ∧
    ∀ i : Fin 32,
      (placeWalk P d order w).placed.get i = (w.placed.get i || (takenSlots P d order w).contains i) ∧
      (placeWalk P d order w).capacity.get i =
        if i ∈ takenSlots P d order w then w.capacity.get i - P else w.capacity.get i := by
  induction order generalizing w with
  | nil => simp [placeWalk, takenSlots]
  | cons i order ih =>
    obtain ⟨hi, hnodup⟩ := List.nodup_cons.1 horder
    by_cases h : w.granted < d ∧ P ≤ w.capacity.get i
    · rw [placeWalk_takes h, takenSlots_takes h hi]
      obtain ⟨hgranted, hslots⟩ := ih hnodup (slotTaken P i w)
      refine ⟨?_, fun j => ?_⟩
      · rw [hgranted, List.length_cons, slotTaken_granted]; omega
      · obtain ⟨hplaced, hcapacity⟩ := hslots j
        rw [hplaced, hcapacity, slotTaken_placed, slotTaken_capacity]
        by_cases hj : j = i
        · subst hj
          have hnot : j ∉ takenSlots P d order (slotTaken P j w) := fun h => hi (mem_of_mem_takenSlots h)
          simp [hnot]
        · simp [hj]
    · rw [placeWalk_passes h, takenSlots_passes h]
      exact ih hnodup w

/-! ## The slots that a walk visits -/

theorem frameWalk_nodup (o : Nat) : (frameWalk o).Nodup :=
  (List.nodup_finRange 32).map fun _ _ h => add_right_cancel h

theorem lateWalk_nodup (s : Fin 32) : (lateWalk s).Nodup := (List.nodup_finRange 32).filter _

theorem frameWalk_getElem? (o : Nat) {j : Nat} (hj : j < 32) :
    (frameWalk o)[j]?.map (fun i => i.val) = some ((o + j) % 32) := by
  simp [frameWalk, hj, Fin.val_add, Fin.ofNat, Nat.add_comm]

theorem lateWalk_val (s : Fin 32) : (lateWalk s).map (fun i => i.val) = (List.range 32).drop (s.val + 1) := by
  revert s; decide

/-- Settles O36, by induction along the walk. -/
theorem walksTakeTheFirstSlotsThatFit : Obligations.WalksTakeTheFirstSlotsThatFit :=
  ⟨fun P d _ w horder => placeWalk_spec P d horder w,
    fun o => ⟨by simp [frameWalk], fun _ hj => frameWalk_getElem? o hj⟩, lateWalk_val⟩

end Sys2Proof.Proofs
end

section
/-! A handed change of demand (R61 to R65, R68, R69). -/

namespace Sys2Proof.Proofs

open Sys2Proof Sys2Proof.Machine Sys2Proof.Claims

section

variable {h : Heater} {d : Nat} {s : State}

theorem setHeater_self (h : Heater) (s : State) : s.setHeater h (s.heater h) = s := by
  unfold State.setHeater State.heater
  rw [PerHeater.set_get_self]
  rfl

theorem setHeaterOut_self (h : Heater) (s : State) : s.setHeaterOut h (s.heaterOut h) = s := by
  unfold State.setHeaterOut State.heaterOut
  rw [PerHeater.set_get_self]
  rfl

/-- A command that changes is handed to OUT with the settling it starts. -/
theorem handCommand_eq (h : Heater) (on : Bool) (s : State) :
    handCommand h on s = (s.setHeater h { s.heater h with relay := on }).setHeaterOut h
      (handed (s.install h).installed (!on) on (s.heaterOut h)) := by
  have hchanges : (!on) ≠ on := by cases on <;> decide
  unfold handCommand settle handed
  rw [if_neg hchanges]
  cases hi : (s.install h).installed <;> simp [hi, setHeaterOut_setHeaterOut]

/-- A placement taken away releases the command of the current slot (R62). -/
theorem dropHeater_eq (h : Heater) (s : State) :
    let r := s.heater h
    let on := r.relay && !r.placed.get s.pfs.slot
    let v := (s.setHeater h { r with frame := 0, placed := noSlots, granted := 0, relay := on }
      ).setHeaterOut h (handed (s.install h).installed r.relay on (s.heaterOut h))
    dropHeater h s =
      if r.relay = true ∧ on = false ∧ feedsCoolingFan h = true then evalCoolingFan v else v := by
  dsimp only
  have hstays (r : HeaterFrame) : (s.setHeater h r).setHeaterOut h (s.heaterOut h) = s.setHeater h r :=
    setHeaterOut_self h (s.setHeater h r)
  unfold dropHeater
  dsimp only
  cases hp : (s.heater h).placed.get s.pfs.slot
  · cases (s.heater h).relay <;> simp [handed_same, hstays]
  · cases (s.heater h).relay
    · simp [relayOff, handed_same, hstays]
    · simp [relayOff, handCommand_eq, setHeater_setHeater]

theorem demandChange_stopped (hs : s.pfs.sched = .stopped) : demandChange h d s = s := by
  simp [demandChange, hs]

theorem demandChange_starting (hh : (s.heater h).hold = .none) (hs : s.pfs.sched = .starting) :
    demandChange h d s = s.setHeater h { s.heater h with requested := d } := by
  simp [demandChange, hh, hs]

/-- The three classes of a change while RUNNING (R61). -/
theorem demandChange_running (hh : (s.heater h).hold = .none) (hs : s.pfs.sched = .running)
    (hd : d ≠ (s.heater h).requested) :
    demandChange h d s =
      let t := s.setHeater h { s.heater h with requested := d }
      if d = 0 then dropHeater h t else if (s.heater h).requested = 0 then latePlace h d t else t := by
  simp [demandChange, hh, hs, hd]

/-- A demand that is handed again changes nothing while RUNNING. -/
theorem demandChange_same (hs : s.pfs.sched = .running) (hd : d = (s.heater h).requested) :
    demandChange h d s = s := by
  simp [demandChange, hs, hd]

/-- A late placement from a record with no placement of its own (R63). -/
theorem latePlace_setHeater (r : HeaterFrame) :
    latePlace h d (s.setHeater h r) =
      let w := placeWalk (s.install h).rating (d * (31 - s.pfs.slot.val) / 32) (lateWalk s.pfs.slot)
        { capacity := s.pfs.capacity, placed := noSlots, granted := 0 }
      (s.withPfs { s.pfs with capacity := w.capacity }).setHeater h
        { r with frame := d, late := true, placed := w.placed, granted := w.granted } := by
  simp only [latePlace, lateDemand, State.setHeater_install, State.setHeater_pfs_slot,
    State.setHeater_pfs_capacity]
  simp [State.setHeater, State.withPfs, State.heater]

end

/-- Settles O35: demandChange by the scheduler's state, and while RUNNING by its classes. -/
theorem demandChangesAreClassed : Obligations.DemandChangesAreClassed := by
  intro h d s r
  refine ⟨fun hh => if_pos hh, demandChange_stopped, demandChange_starting, fun hh hs =>
    ⟨demandChange_same hs, ?_, ?_, ?_⟩⟩
  · rintro rfl hpos
    have hdrop := dropHeater_eq h (s.setHeater h { r with requested := 0 })
    rw [demandChange_running hh hs hpos.ne]
    simpa [setHeater_setHeater] using hdrop
  · intro hd hzero
    rw [demandChange_running hh hs (hzero ▸ hd.ne')]
    dsimp only
    rw [if_neg hd.ne', if_pos hzero, latePlace_setHeater]
  · intro hd hpos
    by_cases hsame : d = r.requested
    · rw [demandChange_same hs hsame]
      subst hsame
      exact (setHeater_self h s).symm
    · rw [demandChange_running hh hs hsame]
      dsimp only
      rw [if_neg hd.ne', if_neg hpos.ne']

end Sys2Proof.Proofs
end

section
/-! The relay commands of a slot (R53, R70, R71, R97). -/

namespace Sys2Proof.Proofs

open Sys2Proof Sys2Proof.Machine Sys2Proof.Claims

/-! ## The commands -/

/-- A heater's record with the command that its placement gives in a slot. -/
def commanded (installed : Bool) (slot : Fin 32) (r : HeaterFrame) : HeaterFrame :=
  { r with relay := if installed then r.placed.get slot else r.relay }

section

variable (h g : Heater) (s : State)

/-- A command that does not change is not handed (R71). -/
theorem setCommand_eq : setCommand h s =
    (s.setHeater h (commanded (s.install h).installed s.pfs.slot (s.heater h))).setHeaterOut h
      (handed (s.install h).installed (s.heater h).relay
        (commanded (s.install h).installed s.pfs.slot (s.heater h)).relay (s.heaterOut h)) := by
  unfold setCommand commanded
  dsimp only
  by_cases hon : (s.install h).installed = true ∧
      (s.heater h).relay ≠ (s.heater h).placed.get s.pfs.slot
  · obtain ⟨hi, hne⟩ := hon
    rw [handCommand_eq]
    cases hr : (s.heater h).relay <;> simp_all
  · have hsame : (if (s.install h).installed then (s.heater h).placed.get s.pfs.slot
        else (s.heater h).relay) = (s.heater h).relay := by
      split
      next hi => exact (not_not.1 fun hne => hon ⟨hi, hne⟩).symm
      next => rfl
    rw [if_neg (by simpa using hon), hsame, handed_same]
    exact ((setHeaterOut_self h _).trans (setHeater_self h s)).symm

theorem setCommand_heater : (setCommand h s).heater g =
    if g = h then commanded (s.install h).installed s.pfs.slot (s.heater h) else s.heater g := by
  rw [setCommand_eq, State.setHeaterOut_heater, State.setHeater_heater]

theorem setCommand_heaterOut : (setCommand h s).heaterOut g =
    if g = h then handed (s.install h).installed (s.heater h).relay
      (commanded (s.install h).installed s.pfs.slot (s.heater h)).relay (s.heaterOut h)
    else s.heaterOut g := by
  rw [setCommand_eq, State.setHeaterOut_heaterOut, State.setHeater_heaterOut]

theorem setCommand_pfs : (setCommand h s).pfs = { s.pfs with heaters := (setCommand h s).pfs.heaters } := by
  rw [setCommand_eq]; rfl

theorem setCommand_out : (setCommand h s).out = { s.out with heaters := (setCommand h s).out.heaters } := by
  rw [setCommand_eq]; rfl

end

theorem foldl_pfs {α : Type} {f : State → α → State}
    (hf : ∀ t a, (f t a).pfs = { t.pfs with heaters := (f t a).pfs.heaters }) (l : List α)
    (s : State) : (l.foldl f s).pfs = { s.pfs with heaters := (l.foldl f s).pfs.heaters } := by
  induction l generalizing s with
  | nil => rfl
  | cons a l ih => rw [List.foldl_cons, ih, hf]

/-- The commands of all heaters, before the cooling fan is evaluated. -/
def commandsSet (s : State) : State := allHeaters.foldl (fun t h => setCommand h t) s

theorem commandsSet_ovr (s : State) : (commandsSet s).ovr = s.ovr :=
  foldl_keeps (g := State.ovr) (fun t h => by simp) _ s

theorem commandsSet_pfs (s : State) :
    (commandsSet s).pfs = { s.pfs with heaters := (commandsSet s).pfs.heaters } :=
  foldl_pfs (fun t h => setCommand_pfs h t) _ s

theorem commandsSet_out (s : State) :
    (commandsSet s).out = { s.out with heaters := (commandsSet s).out.heaters } :=
  foldl_out (fun t h => setCommand_out h t) _ s

/-- Each heater's records once its command is set. -/
theorem commandsSet_heater (s : State) (h : Heater) :
    (commandsSet s).heater h = commanded (s.install h).installed s.pfs.slot (s.heater h) ∧
    (commandsSet s).heaterOut h =
      handed (s.install h).installed (s.heater h).relay ((commandsSet s).heater h).relay
        (s.heaterOut h) := by
  have hpair := foldl_pointwise (f := fun t h => setCommand h t)
    (read := fun t k => (t.heater k, t.heaterOut k))
    (g := fun k r => (commanded (s.install k).installed s.pfs.slot r.1,
      handed (s.install k).installed r.1.relay
        (commanded (s.install k).installed s.pfs.slot r.1).relay r.2))
    (ready := fun t => t.pfs.slot = s.pfs.slot ∧ t.cfg = s.cfg)
    (fun t k ⟨hslot, hcfg⟩ => ⟨by rw [setCommand_pfs]; exact hslot, by simpa using hcfg⟩)
    (fun t k j ⟨hslot, hcfg⟩ => by
      have hinstall : t.install k = s.install k := by unfold State.install; rw [hcfg]
      rw [setCommand_heater, setCommand_heaterOut, hslot, hinstall]
      split <;> rfl) nodup_allHeaters ⟨rfl, rfl⟩ h
  rw [if_pos (mem_allHeaters h), Prod.mk.injEq] at hpair
  obtain ⟨hheater, hout⟩ := hpair
  exact ⟨hheater, by rw [show (commandsSet s).heater h = _ from hheater]; exact hout⟩

/-! ## The commands with the cooling fan -/

theorem commandsChanged_iff (s : State) :
    allHeaters.any (fun h => feedsCoolingFan h && (s.heater h).relay != ((commandsSet s).heater h).relay) =
      true ↔ ∃ h, feedsCoolingFan h = true ∧ (s.heater h).relay ≠ ((commandsSet s).heater h).relay := by
  simp [mem_allHeaters]

/-- The cooling fan is evaluated when a command that it follows has changed, and only then (R71, R97). -/
theorem setCommands_cases (s : State) :
    ((∃ h, feedsCoolingFan h = true ∧ (s.heater h).relay ≠ ((commandsSet s).heater h).relay) ∧
      setCommands s = evalCoolingFan (commandsSet s)) ∨
    ((∀ h, feedsCoolingFan h = true → (s.heater h).relay = ((commandsSet s).heater h).relay) ∧
      setCommands s = commandsSet s) := by
  by_cases h : ∃ h, feedsCoolingFan h = true ∧ (s.heater h).relay ≠ ((commandsSet s).heater h).relay
  · exact .inl ⟨h, if_pos ((commandsChanged_iff s).2 h)⟩
  · exact .inr ⟨by simpa using h, if_neg fun hany => h ((commandsChanged_iff s).1 hany)⟩

/-- From s to t every command follows its placement in the current slot: each change is handed to OUT, the
cooling fan follows, and nothing else changes (R53, R71, R97). -/
structure FollowsPlacement (s t : State) : Prop where
  heater : ∀ h, t.heater h = commanded (s.install h).installed s.pfs.slot (s.heater h)
  outs : ∀ h, t.heaterOut h =
    handed (s.install h).installed (s.heater h).relay (t.heater h).relay (s.heaterOut h)
  pfs : t.pfs = { s.pfs with heaters := t.pfs.heaters }
  out : t.out = { s.out with heaters := t.out.heaters }
  changed : (∃ h, feedsCoolingFan h = true ∧ (s.heater h).relay ≠ (t.heater h).relay) →
    let fan := coolingFanValue (ovenOrGrillOn t) s.tempF s.ovr.coolingFan
    t.ovr = { s.ovr with
      coolingFan := fan, fanJustOff := (s.ovr.coolingFan || s.ovr.fanJustOff) && !fan }
  same : (∀ h, feedsCoolingFan h = true → (s.heater h).relay = (t.heater h).relay) → t.ovr = s.ovr
  eq : t = { s with pfs := t.pfs, out := t.out, ovr := t.ovr }

/-- A state that differs in the scheduler, OUT and OVR alone. -/
theorem eq_of_outputs {s t : State} (hpins : t.pins = s.pins) (hlnk : t.lnk = s.lnk) (hcfg : t.cfg = s.cfg)
    (hpst : t.pst = s.pst) (hplr : t.plr = s.plr) (hbsv : t.bsv = s.bsv) (hntq : t.ntq = s.ntq)
    (hdrawn : t.drawn = s.drawn) (hpending : t.pending = s.pending) :
    t = { s with pfs := t.pfs, out := t.out, ovr := t.ovr } := by
  rw [← hpins, ← hlnk, ← hcfg, ← hpst, ← hplr, ← hbsv, ← hntq, ← hdrawn, ← hpending]

theorem evalCoolingFan_ovr {s t : State} (h : t.ovr = s.ovr) :
    let fan := coolingFanValue (ovenOrGrillOn (evalCoolingFan t)) s.tempF s.ovr.coolingFan
    (evalCoolingFan t).ovr = { s.ovr with
      coolingFan := fan, fanJustOff := (s.ovr.coolingFan || s.ovr.fanJustOff) && !fan } := by
  unfold State.tempF
  rw [← h]
  rfl

theorem setCommands_follows (s : State) : FollowsPlacement s (setCommands s) := by
  have hheater := commandsSet_heater s
  have heq : setCommands s =
      { s with pfs := (setCommands s).pfs, out := (setCommands s).out, ovr := (setCommands s).ovr } := by
    apply eq_of_outputs <;> simp
  obtain ⟨⟨h, hf, hne⟩, hset⟩ | ⟨hsame, hset⟩ := setCommands_cases s <;> rw [hset] at heq ⊢
  · exact
      { heater := fun h => (hheater h).1
        outs := fun h => (hheater h).2
        pfs := commandsSet_pfs s
        out := commandsSet_out s
        changed := fun _ => evalCoolingFan_ovr (commandsSet_ovr s)
        same := fun hsame => absurd (hsame h hf) hne
        eq := heq }
  · exact
      { heater := fun h => (hheater h).1
        outs := fun h => (hheater h).2
        pfs := commandsSet_pfs s
        out := commandsSet_out s
        changed := fun ⟨h, hf, hne⟩ => absurd (hsame h hf) hne
        same := fun _ => commandsSet_ovr s
        eq := heq }

namespace FollowsPlacement

variable {s t : State}

theorem sched (f : FollowsPlacement s t) : t.pfs.sched = s.pfs.sched := by rw [f.pfs]

theorem slot (f : FollowsPlacement s t) : t.pfs.slot = s.pfs.slot := by rw [f.pfs]

theorem capacity (f : FollowsPlacement s t) : t.pfs.capacity = s.pfs.capacity := by rw [f.pfs]

end FollowsPlacement

/-! ## A slot boundary -/

/-- The next slot, before its commands are set. -/
def nextSlot (s : State) : State :=
  s.withPfs { s.pfs with slot := s.pfs.slot + 1, slotTimer := some 1000 }

theorem slotEvent_eq (s : State) : slotEvent s = setCommands (nextSlot s) := rfl

theorem nextSlot_val {s : State} (h : s.pfs.slot.val < 31) :
    (nextSlot s).pfs.slot.val = s.pfs.slot.val + 1 := by
  show (s.pfs.slot + 1).val = _
  rw [Fin.val_add, Fin.val_one]
  exact Nat.mod_eq_of_lt (by omega)

/-- Settles O37: the slot moves, and then every command follows its placement. -/
theorem slotBoundarySetsTheCommands : Obligations.SlotBoundarySetsTheCommands := by
  intro s
  have hlast : s.pfs.slot.val = 31 ↔ s.pfs.slot = 31 := by rw [Fin.ext_iff]; rfl
  refine ⟨fun h => ?_, fun hrun hslot => ?_⟩
  · have hidle : ¬ (s.pfs.sched = .running ∧ s.pfs.slot ≠ 31) := by
      rw [hlast] at h; tauto
    exact congrArg _ (if_neg hidle)
  · have hacts : s.pfs.sched = .running ∧ s.pfs.slot ≠ 31 := ⟨hrun, fun h => hslot.ne (hlast.2 h)⟩
    have hmoved : (slotEvent s).pfs.slot = (nextSlot s).pfs.slot := (setCommands_follows (nextSlot s)).slot
    obtain ⟨hheater, houts, hpfs, hout, hchanged, hsame, heq⟩ := setCommands_follows (nextSlot s)
    refine ⟨slotEvent s, congrArg _ (if_pos hacts), ?_, fun h => ⟨?_, houts h⟩, ?_, hout, hchanged, hsame,
      heq⟩
    · rw [hmoved, nextSlot_val hslot]
    · rw [hmoved]; exact hheater h
    · rw [hmoved]; exact hpfs

end Sys2Proof.Proofs
end

section
/-! A load seen with the contactor open (R138, R139), and the laws of the relays and the valves (R60, R70,
R102). -/

namespace Sys2Proof.Proofs

open Sys2Proof Sys2Proof.Machine Sys2Proof.Claims Sys2Proof.Safety

/-! ## The entry to LOCKED -/

/-- A burner in LOCKED is OFF or WAIT-CLOSE by its knob (R125). -/
theorem lockBurner_eq (b : BurnerRec) : lockBurner b =
    { atRest b (if b.knob = .closed then .off else .waitClose) with
      debounce := none, attempts := 0, losses := 0 } := by
  unfold lockBurner
  cases b.knob <;> rfl

theorem runReached_opened {h : Heater} (also : List Heater) {s : State} (hd : disagrees s h = true)
    (ho : s.out.contactor = .opened) : runReached h also s = enterLocked s := by
  unfold runReached
  rw [if_pos hd, ho]

/-- Settles O51: the run that is reached enters LOCKED, block by block. -/
theorem liveContactorLocksThePart : Obligations.LiveContactorLocksThePart := by
  intro h also s hd ho
  have hburners : s.bsv.burners.map (fun _ b => lockBurner b) = s.bsv.burners.map (fun _ b =>
      { atRest b (if b.knob = .closed then .off else .waitClose) with
        debounce := none, attempts := 0, losses := 0 }) := by simp only [lockBurner_eq]
  have hlocked : exec (.persistenceRunExpiry h also) s = .next (enterLocked s) :=
    congrArg _ (runReached_opened also hd ho)
  rw [hlocked, ← hburners]
  rfl

/-! ## The relays -/

section

variable {s : State} (inv : PowerInv s)
include inv

/-- What a heater commanded on draws, it draws by its placement in the current slot. -/
theorem relayWatts_le (h : Heater) :
    (if (s.heater h).relay then (s.install h).rating else 0) ≤ placedWatts s s.pfs.slot h := by
  split
  next hr =>
    obtain ⟨-, hinstalled, hplaced, -⟩ := inv.relay h hr
    rw [placedWatts, if_pos ⟨hinstalled, hplaced⟩]
  next => exact Nat.zero_le _

theorem relayLoad_le_slotLoad : relayLoad s ≤ slotLoad s s.pfs.slot :=
  List.sum_le_sum fun h _ => relayWatts_le inv h

/-- The relays stay within the budget: while RUNNING by the placements, and otherwise none is on. -/
theorem relayLoad_le_budget : relayLoad s ≤ s.cfg.budget.getD 0 := by
  by_cases hrun : s.pfs.sched = .running
  · have hslot := inv.load hrun s.pfs.slot
    have hload := relayLoad_le_slotLoad inv
    omega
  · have hoff (h : Heater) : (s.heater h).relay = false :=
      Bool.eq_false_iff.2 fun hr => hrun (inv.relay h hr).1
    simp [relayLoad, hoff]

/-- A command that is on has the supply behind it, and its heater works. -/
theorem relay_supplied {h : Heater} (hr : (s.heater h).relay = true) :
    s.cfg.part = .operating ∧ s.out.contactor = .closed ∧ s.out.supplyOff = false ∧
      (s.install h).installed = true ∧ (s.heaterOut h).failed = false := by
  obtain ⟨hrun, hinstalled, -, hhold⟩ := inv.relay h hr
  have hsched : s.pfs.sched ≠ .stopped := by simp [hrun]
  have hsupply : s.out.supplyOff = false :=
    Bool.eq_false_iff.2 fun hoff => inv.supply hoff h hinstalled hhold
  exact ⟨inv.operating hsched, inv.closed hsched hsupply, hsupply, hinstalled,
    Bool.eq_false_iff.2 fun hfailed => inv.failed h hfailed hhold⟩

end

/-! ## The valves and the spark -/

section

variable {s : State} (inv : BurnerInv s)
include inv

/-- A valve is open only in IGNITING or BURNING, and so not in the OFF of a closed knob. -/
theorem knob_of_valve {n : Burner} (hv : valve s n = true) : (s.burner n).knob = .opened := by
  cases hk : (s.burner n).knob
  case opened => rfl
  case closed =>
    have hoff := (inv.off n).2 hk
    simp [valve, valveOpen, hoff] at hv

/-- The spark is selected for the generator's owner, which is IGNITING. -/
theorem igniting_of_spark {n : Burner} (he : sparkEnable s = true)
    (hn : sparkSelect s = burnerNumber n - 1) : (s.burner n).state = .igniting := by
  obtain ⟨m, hm⟩ := Option.isSome_iff_exists.1 he
  have hsame : m = n := by
    rw [sparkSelect, hm] at hn
    cases m <;> cases n <;> simp_all [burnerNumber]
  exact (inv.owner n).1 (hsame ▸ hm)

end

/-- Settles O59: each law from its invariant. -/
theorem relaysAndValvesObeyTheirLaws : Obligations.RelaysAndValvesObeyTheirLaws := fun _ =>
  ⟨fun inv => ⟨relayLoad_le_budget inv, fun _ => relay_supplied inv⟩,
    fun inv => ⟨fun _ => knob_of_valve inv, fun _ => igniting_of_spark inv⟩⟩

end Sys2Proof.Proofs
end

section
/-! A frame boundary up to the oven's demands (R52, R54 steps 1 to 4, R88). -/

namespace Sys2Proof.Proofs

open Sys2Proof Sys2Proof.Machine Sys2Proof.Claims

/-! ## A step at every heater -/

/-- A step that writes each of some heaters' records from the record and the configuration. -/
theorem foldl_setHeater (f : Cfg → Heater → HeaterFrame → HeaterFrame) (l : List Heater) (s : State) :
    l.foldl (fun t h => t.setHeater h (f t.cfg h (t.heater h))) s =
      s.withPfs { s.pfs with
        heaters := l.foldl (fun x h => x.set h (f s.cfg h (x.get h))) s.pfs.heaters } := by
  induction l generalizing s with
  | nil => rfl
  | cons h l ih => rw [List.foldl_cons, ih]; rfl

theorem foldl_set_eq_map {α : Type} (f : Heater → α → α) (x : PerHeater α) :
    allHeaters.foldl (fun x h => x.set h (f h (x.get h))) x = x.map f := rfl

/-- The same at every heater. -/
theorem allHeaters_setHeater (f : Cfg → Heater → HeaterFrame → HeaterFrame) (s : State) :
    allHeaters.foldl (fun t h => t.setHeater h (f t.cfg h (t.heater h))) s =
      s.withPfs { s.pfs with heaters := s.pfs.heaters.map (f s.cfg) } := by
  rw [foldl_setHeater, foldl_set_eq_map]

/-! ## The new frame -/

/-- A heater's record with its old placement taken away (R54 step 3). -/
def cleared (cfg : Cfg) (h : Heater) (r : HeaterFrame) : HeaterFrame :=
  if (cfg.heaters.get h).installed then
    { r with placed := noSlots, granted := 0, promoted := false, late := false }
  else r

theorem clearHeater_eq (h : Heater) (s : State) :
    clearHeater h s = s.setHeater h (cleared s.cfg h (s.heater h)) := by
  unfold clearHeater cleared State.install
  split
  · rfl
  · exact (setHeater_self h s).symm

theorem openFrame_eq (s : State) : openFrame s = s.withPfs { s.pfs with
    sched := .running, frameNumber := (s.pfs.frameNumber + 1) % 65536, slot := 0
    capacity := Vector.replicate 32 (s.cfg.budget.getD 0), slotTimer := some 1000
    heaters := s.pfs.heaters.map (cleared s.cfg) } := by
  unfold openFrame
  simp only [clearHeater_eq]
  exact allHeaters_setHeater cleared _

/-! ## The switch from BOOST to MODE -/

/-- OVR forms the set of its mode (R88). -/
def boostEnded (s : State) : State :=
  s.withOvr { s.ovr with
    source := .mode, boostEndPending := false, active := activeSet s .mode s.ovr.mode
    fanMark := rowFan .mode s.ovr.mode }

theorem formSet_boostEnded (s : State) :
    formSet (s.withOvr { s.ovr with source := .mode, boostEndPending := false }) = boostEnded s := by
  rw [formSet_eq]; rfl

theorem boostSwitch_idle {s : State} (h : s.ovr.boostEndPending = false) : boostSwitch s = s := by
  simp [boostSwitch, h]

/-- OVR sets the fan again once the switch is done (R88, R95). -/
def fanSet (s : State) : State := s.withOvr { s.ovr with ovenFan := ovenFanValue s }

theorem boostSwitch_works {s : State} (h : s.ovr.boostEndPending = true)
    (hworks : ¬ (s.ovr.context = .bake ∧ failedSet s .mode s.ovr.mode)) :
    boostSwitch s = fanSet (boostEnded s) := by
  have hset : ¬ ((boostEnded s).ovr.context = .bake ∧ emptyByFailure (boostEnded s) = true) :=
    fun ⟨hb, he⟩ => hworks ⟨hb, (emptyByFailure_iff _).1 he⟩
  unfold boostSwitch
  rw [if_pos h, formSet_boostEnded]
  dsimp only
  rw [if_neg hset]
  rfl

theorem boostSwitch_fails {s : State} (h : s.ovr.boostEndPending = true)
    (hfails : s.ovr.context = .bake ∧ failedSet s .mode s.ovr.mode) :
    boostSwitch s = fanSet (reportFault .ov .element (boostEnded s)) := by
  have hset : (boostEnded s).ovr.context = .bake ∧ emptyByFailure (boostEnded s) = true :=
    ⟨hfails.1, (emptyByFailure_iff (boostEnded s)).2 hfails.2⟩
  unfold boostSwitch
  rw [if_pos h, formSet_boostEnded]
  dsimp only
  rw [if_pos hset]
  rfl

theorem reportElement_oven {s : State} (h : (s.chan .ov).state = .running ∨ (s.chan .ov).state = .paused) :
    reportFault .ov .element s = sync .ov (raise { kind := .channelHalted, subject := 6, detail1 := 1
                                                   detail2 := (s.chan .ov).stageIndex }
      (s.setChan .ov (halted (s.chan .ov) .element))) := by
  have hreached : faultReaches .element .ov (s.chan .ov).state = true := by
    rw [faultReaches_iff]; simpa using h
  rw [reportFault, if_pos hreached]
  rfl

theorem reportElement_oven_idle {s : State}
    (h : ¬ ((s.chan .ov).state = .running ∨ (s.chan .ov).state = .paused)) :
    reportFault .ov .element s = s := by
  have hreached : ¬ faultReaches .element .ov (s.chan .ov).state = true := by
    rw [faultReaches_iff]; simpa using h
  rw [reportFault, if_neg hreached]

/-! ## The oven's demands -/

/-- A heater's record once its demand is requested, unless it is held or not installed (R54 step 4). -/
def asked (installed : Bool) (d : Nat) (r : HeaterFrame) : HeaterFrame :=
  if r.hold = .none ∧ installed = true then { r with requested := d } else r

theorem setHeater_asked (g : Heater) (d : Nat) (s : State) :
    (if (s.heater g).hold = .none ∧ (s.install g).installed = true then
      s.setHeater g { s.heater g with requested := d } else s) =
      s.setHeater g (asked (s.install g).installed d (s.heater g)) := by
  unfold asked
  split
  · rfl
  · exact (setHeater_self g s).symm

theorem frameDemand_eq (o : OvenHeater) (d : Nat) (s : State) :
    frameDemand o d s = (s.withOvr { s.ovr with handed := s.ovr.handed.set o d }).setHeater
      (ovenHeaterAsHeater o) (asked (s.install (ovenHeaterAsHeater o)).installed d
        (s.heater (ovenHeaterAsHeater o))) := setHeater_asked _ _ _

/-- The demands of some oven heaters, recorded and requested. -/
theorem foldl_frameDemand (demand : OvenHeater → Nat) (l : List OvenHeater) (s : State) :
    l.foldl (fun t o => frameDemand o (demand o) t) s =
      (s.withOvr { s.ovr with handed := l.foldl (fun x o => x.set o (demand o)) s.ovr.handed }).withPfs
        { s.pfs with heaters := l.foldl (fun x o => x.set (ovenHeaterAsHeater o)
          (asked (s.install (ovenHeaterAsHeater o)).installed (demand o)
            (x.get (ovenHeaterAsHeater o)))) s.pfs.heaters } := by
  induction l generalizing s with
  | nil => rfl
  | cons o l ih => rw [List.foldl_cons, ih, frameDemand_eq]; rfl

/-- OVR's demands, recorded and requested (R54 step 4). -/
def ovenAsked (demand : OvenHeater → Nat) (s : State) : State :=
  (s.withOvr { s.ovr with handed :=
    { top := demand .top, base := demand .base, ring := demand .ring } }).withPfs
    { s.pfs with heaters := s.pfs.heaters.map (fun h r =>
      match asOvenHeater h with
      | some g => asked (s.install h).installed (demand g) r
      | none => r) }

theorem foldl_setOven {α : Type} (demand : OvenHeater → α) (x : PerOven α) :
    ovenHeaters.foldl (fun x o => x.set o (demand o)) x = ⟨demand .top, demand .base, demand .ring⟩ := rfl

theorem foldl_asked (installed : Heater → Bool) (demand : OvenHeater → Nat) (x : PerHeater HeaterFrame) :
    ovenHeaters.foldl (fun x o => x.set (ovenHeaterAsHeater o) (asked (installed (ovenHeaterAsHeater o))
      (demand o) (x.get (ovenHeaterAsHeater o)))) x =
    x.map (fun h r =>
      match asOvenHeater h with
      | some g => asked (installed h) (demand g) r
      | none => r) := rfl

theorem allOven_frameDemand (demand : OvenHeater → Nat) (s : State) :
    ovenHeaters.foldl (fun t o => frameDemand o (demand o) t) s = ovenAsked demand s := by
  rw [foldl_frameDemand, foldl_setOven, foldl_asked fun h => (s.install h).installed]
  rfl

theorem frameOven_eq (s : State) :
    frameOven s = ovenAsked (heaterDemand (boostSwitch s)) (boostSwitch s) := allOven_frameDemand _ _

/-- Settles O39: the switch by its three cases, then the demands. -/
theorem frameBoundaryAsksTheOven : Obligations.FrameBoundaryAsksTheOven := by
  intro s o asks b fan fails
  have hasks (u : State) : ovenAsked (heaterDemand u) u = asks u := rfl
  have hovr : o.ovr = s.ovr := by simp [o]
  have hchan : (o.chan .ov) = s.chan .ov := by simp [o]
  refine ⟨openFrame_eq s, fun h => ?_, fun h hworks => ?_, fun h hfails => ?_⟩
  · rw [frameOven_eq, boostSwitch_idle (hovr ▸ h), hasks]
  · have hpending : o.ovr.boostEndPending = true := hovr ▸ h
    have hswitched : boostSwitch o = fan b := by
      by_cases hset : o.ovr.context = .bake ∧ failedSet o .mode o.ovr.mode
      · have hidle := reportElement_oven_idle (s := boostEnded o) fun hst => hworks ⟨hset.1, hset.2, hst⟩
        rw [boostSwitch_fails hpending hset, hidle]
        rfl
      · rw [boostSwitch_works hpending hset]
        rfl
    rw [frameOven_eq, hswitched, hasks]
  · obtain ⟨hbake, hset, hst⟩ := hfails
    rw [frameOven_eq, boostSwitch_fails (hovr ▸ h) ⟨hbake, hset⟩,
      reportElement_oven (s := boostEnded o) hst, ← hchan]
    rfl

end Sys2Proof.Proofs
end

section
/-! The placements of a frame boundary (R54 steps 5 to 7, R57, R58, R59). -/

namespace Sys2Proof.Proofs

open Sys2Proof Sys2Proof.Machine Sys2Proof.Claims

/-! ## One heater -/

/-- The walk of one heater at a frame boundary, from the capacities that are left (R58). -/
def frameWalked (s : State) (h : Heater) (capacity : Slots Nat) : Placement :=
  placeWalk (s.install h).rating (s.heater h).frame (frameWalk (s.install h).offset)
    { capacity := capacity, placed := noSlots, granted := 0 }

/-- A heater's record once it is placed, with its mark of the promoted group. -/
def placedRecord (promoted : Bool) (w : Placement) (r : HeaterFrame) : HeaterFrame :=
  { r with placed := w.placed, granted := w.granted, promoted := promoted }

theorem placeHeater_heater (p : Bool) (h g : Heater) (s : State) :
    (placeHeater p h s).heater g =
      if g = h then placedRecord p (frameWalked s h s.pfs.capacity) (s.heater h) else s.heater g :=
  State.setHeater_heater _ _ _ _

theorem placeHeater_capacity (p : Bool) (h : Heater) (s : State) :
    (placeHeater p h s).pfs.capacity = (frameWalked s h s.pfs.capacity).capacity := rfl

/-- A placement leaves every frame demand. -/
theorem placeHeater_demand (p : Bool) (h g : Heater) (s : State) :
    ((placeHeater p h s).heater g).frame = (s.heater g).frame := by
  rw [placeHeater_heater]
  split
  next hg => rw [hg]; rfl
  next => rfl

/-! ## The groups, one heater after another -/

/-- Heaters placed one after another, each with its mark of the promoted group. -/
def placeGroups (l : List (Heater × Bool)) (s : State) : State :=
  l.foldl (fun t p => placeHeater p.2 p.1 t) s

theorem placeGroups_cons (p : Heater × Bool) (l : List (Heater × Bool)) (s : State) :
    placeGroups (p :: l) s = placeGroups l (placeHeater p.2 p.1 s) := rfl

theorem placeGroups_heater_of_notMem {g : Heater} (l : List (Heater × Bool))
    (hg : g ∉ l.map Prod.fst) (s : State) : (placeGroups l s).heater g = s.heater g := by
  induction l generalizing s with
  | nil => rfl
  | cons p l ih =>
    rw [List.map_cons, List.mem_cons, not_or] at hg
    rw [placeGroups_cons, ih hg.2, placeHeater_heater, if_neg hg.1]

theorem walks_cons (s : State) (h : Heater) (l : List Heater) (capacity : Slots Nat) :
    walks s (h :: l) capacity =
      (h, frameWalked s h capacity) :: walks s l (frameWalked s h capacity).capacity := rfl

/-- The walks depend on the installation and the frame demands of their heaters alone. -/
theorem walks_congr {s t : State} (hi : ∀ h, t.install h = s.install h) {l : List Heater}
    (hf : ∀ h ∈ l, (t.heater h).frame = (s.heater h).frame) (capacity : Slots Nat) :
    walks t l capacity = walks s l capacity := by
  induction l generalizing capacity with
  | nil => rfl
  | cons h l ih =>
    have hwalk : frameWalked t h capacity = frameWalked s h capacity := by
      unfold frameWalked; rw [hi, hf h List.mem_cons_self]
    rw [walks_cons, walks_cons, hwalk, ih fun g hg => hf g (List.mem_cons_of_mem h hg)]

/-- Each walk starts from some capacities that are left. -/
theorem walk_of_mem_walks {s : State} {l : List Heater} {capacity : Slots Nat} {q : Heater × Placement}
    (hq : q ∈ walks s l capacity) : q.1 ∈ l ∧ ∃ c, q.2 = frameWalked s q.1 c := by
  induction l generalizing capacity with
  | nil => cases hq
  | cons h l ih =>
    rw [walks_cons, List.mem_cons] at hq
    obtain rfl | hq := hq
    · exact ⟨List.mem_cons_self, capacity, rfl⟩
    · exact ⟨List.mem_cons_of_mem h (ih hq).1, (ih hq).2⟩

theorem walks_heaters (s : State) (l : List Heater) (capacity : Slots Nat) :
    (walks s l capacity).map Prod.fst = l := by
  induction l generalizing capacity with
  | nil => rfl
  | cons h l ih => rw [walks_cons, List.map_cons, ih]

/-- A heater that stands once has one walk. -/
theorem walks_unique {s : State} {l : List Heater} (hl : l.Nodup) {capacity : Slots Nat} {h : Heater}
    {v w : Placement} (hv : (h, v) ∈ walks s l capacity) (hw : (h, w) ∈ walks s l capacity) : v = w := by
  have hkeys : ((walks s l capacity).map Prod.fst).Nodup := by rw [walks_heaters]; exact hl
  exact congrArg Prod.snd (List.inj_on_of_nodup_map hkeys hv hw rfl)

/-- The capacities after some walks. -/
def capacityAfter (l : List (Heater × Placement)) (capacity : Slots Nat) : Slots Nat :=
  (l.getLast?.map fun q => q.2.capacity).getD capacity

theorem capacityAfter_cons (q : Heater × Placement) (l : List (Heater × Placement)) (c : Slots Nat) :
    capacityAfter (q :: l) c = capacityAfter l q.2.capacity := by
  cases l <;> simp [capacityAfter, List.getLast?_cons]

/-- Each heater takes the placement of its own walk. -/
theorem placeGroups_spec {l : List (Heater × Bool)} (hl : (l.map Prod.fst).Nodup) (s : State) :
    let all := walks s (l.map Prod.fst) s.pfs.capacity
    (placeGroups l s).pfs.capacity = capacityAfter all s.pfs.capacity ∧
    ∀ p ∈ l, ∃ w, (p.1, w) ∈ all ∧ (placeGroups l s).heater p.1 = placedRecord p.2 w (s.heater p.1) := by
  induction l generalizing s with
  | nil => exact ⟨rfl, fun p hp => by cases hp⟩
  | cons p l ih =>
    obtain ⟨hnot, hnodup⟩ := List.nodup_cons.1 hl
    obtain ⟨hcapacity, hplaced⟩ := ih hnodup (placeHeater p.2 p.1 s)
    rw [walks_congr (s := s) (by simp) (fun g _ => placeHeater_demand p.2 p.1 g s), placeHeater_capacity]
      at hcapacity hplaced
    dsimp only
    rw [placeGroups_cons, List.map_cons, walks_cons, capacityAfter_cons]
    refine ⟨hcapacity, fun q hq => ?_⟩
    obtain rfl | hq := List.mem_cons.1 hq
    · refine ⟨_, List.mem_cons_self, ?_⟩
      rw [placeGroups_heater_of_notMem l hnot, placeHeater_heater, if_pos rfl]
    · obtain ⟨w, hw, heater⟩ := hplaced q hq
      have hne : q.1 ≠ p.1 := fun h => hnot (h ▸ List.mem_map_of_mem hq)
      refine ⟨w, List.mem_cons_of_mem _ hw, ?_⟩
      rw [heater, placeHeater_heater, if_neg hne]

end Sys2Proof.Proofs
end

section
/-! A frame boundary as a whole (R54, R57 to R59, R68, R71). -/

namespace Sys2Proof.Proofs

open Sys2Proof Sys2Proof.Machine Sys2Proof.Claims

/-! ## The frame demands and the starve counts -/

/-- A heater's record with the frame demand of the new frame (R54 step 5). -/
def demanded (cfg : Cfg) (h : Heater) (r : HeaterFrame) : HeaterFrame :=
  if (cfg.heaters.get h).installed then
    { r with frame := if r.hold = .none then r.requested else 0 }
  else r

theorem takeDemand_eq (h : Heater) (s : State) :
    takeDemand h s = s.setHeater h (demanded s.cfg h (s.heater h)) := by
  unfold takeDemand demanded State.install
  split
  · rfl
  · exact (setHeater_self h s).symm

/-- A heater's record with its new starve count (R59). -/
def starved (cfg : Cfg) (h : Heater) (r : HeaterFrame) : HeaterFrame :=
  if (cfg.heaters.get h).installed then { r with starve := starveAfter r } else r

theorem updateStarve_eq (h : Heater) (s : State) :
    updateStarve h s = s.setHeater h (starved s.cfg h (s.heater h)) := by
  unfold updateStarve starved State.install
  split
  · rfl
  · exact (setHeater_self h s).symm

/-- Every heater's record written from itself and the configuration. -/
def mapHeaters (f : Cfg → Heater → HeaterFrame → HeaterFrame) (s : State) : State :=
  s.withPfs { s.pfs with heaters := s.pfs.heaters.map (f s.cfg) }

@[simp] theorem mapHeaters_heater (f : Cfg → Heater → HeaterFrame → HeaterFrame) (s : State) (h : Heater) :
    (mapHeaters f s).heater h = f s.cfg h (s.heater h) := PerHeater.get_map _ _ _

@[simp] theorem mapHeaters_cfg (f : Cfg → Heater → HeaterFrame → HeaterFrame) (s : State) :
    (mapHeaters f s).cfg = s.cfg := rfl

@[simp] theorem mapHeaters_install (f : Cfg → Heater → HeaterFrame → HeaterFrame) (s : State) (h : Heater) :
    (mapHeaters f s).install h = s.install h := rfl

@[simp] theorem mapHeaters_capacity (f : Cfg → Heater → HeaterFrame → HeaterFrame) (s : State) :
    (mapHeaters f s).pfs.capacity = s.pfs.capacity := rfl

/-! ## The groups of a frame -/

/-- The installed heaters that have starved for three frames, in rank order (R57). -/
def promotedGroup (s : State) : List Heater := (rankOrder s).filter fun h => (s.heater h).starve == 3

/-- The other installed heaters, in rank order (R57). -/
def otherGroup (s : State) : List Heater := (rankOrder s).filter fun h => (s.heater h).starve != 3

/-- The heaters in the order in which they are placed, each with its mark (R57). -/
def frameGroups (s : State) : List (Heater × Bool) :=
  (promotedGroup s).map (·, true) ++ (otherGroup s).map (·, false)

theorem frameGroups_heaters (s : State) :
    (frameGroups s).map Prod.fst = promotedGroup s ++ otherGroup s := by
  simp [frameGroups, Function.comp_def]

theorem mem_rankOrder (s : State) (h : Heater) :
    h ∈ rankOrder s ↔ (s.install h).installed = true ∧ (s.install h).rank ≤ 6 := by
  simp only [rankOrder, List.mem_flatMap, List.mem_range, List.mem_filter, mem_allHeaters, true_and,
    Bool.and_eq_true, beq_iff_eq, exists_eq_right_right']
  rw [Nat.lt_succ_iff, and_comm]

theorem mem_promotedGroup {s : State} (hranks : ∀ h, (s.install h).rank ≤ 6) (h : Heater) :
    h ∈ promotedGroup s ↔ (s.install h).installed = true ∧ (s.heater h).starve = 3 := by
  simp [promotedGroup, mem_rankOrder, hranks]

theorem mem_otherGroup {s : State} (hranks : ∀ h, (s.install h).rank ≤ 6) (h : Heater) :
    h ∈ otherGroup s ↔ (s.install h).installed = true ∧ (s.heater h).starve ≠ 3 := by
  simp [otherGroup, mem_rankOrder, hranks]

theorem mem_frameGroups {s : State} (hranks : ∀ h, (s.install h).rank ≤ 6) (h : Heater) :
    (h, decide ((s.heater h).starve = 3)) ∈ frameGroups s ↔ (s.install h).installed = true := by
  by_cases hstarve : (s.heater h).starve = 3 <;>
    simp [frameGroups, mem_promotedGroup hranks, mem_otherGroup hranks, hstarve]

theorem notMem_frameGroups {s : State} {h : Heater} (hi : (s.install h).installed = false) :
    h ∉ (frameGroups s).map Prod.fst := by
  simp [frameGroups_heaters, promotedGroup, otherGroup, mem_rankOrder, hi]

theorem frameGroups_nodup (s : State) : ((frameGroups s).map Prod.fst).Nodup := by
  have horder : (rankOrder s).Nodup := (rankOrder_pairwise s).imp fun h => h.2
  rw [frameGroups_heaters]
  refine (horder.filter _).append (horder.filter _) fun h hp ho => ?_
  have h3 := (List.mem_filter.1 hp).2
  have hne := (List.mem_filter.1 ho).2
  simp_all

/-- The lists sorted by a strict rank are the only ones (R57). -/
theorem eq_of_sorted {α : Type} {rank : α → Nat} {l m : List α} (hmem : ∀ a, a ∈ l ↔ a ∈ m)
    (hl : l.Pairwise fun a b => rank a < rank b) (hm : m.Pairwise fun a b => rank a ≤ rank b ∧ a ≠ b) :
    l = m := by
  have hsymm : Std.Symm fun a b => rank a ≠ rank b := ⟨fun _ _ h => h.symm⟩
  have hdistinct : l.Pairwise fun a b => rank a ≠ rank b := hl.imp fun h => h.ne
  refine List.Perm.eq_of_pairwise (fun a b ha hb hab hba => ?_) (hl.imp fun h => h.le)
    (hm.imp fun h => h.1) ((List.perm_ext_iff_of_nodup ?_ ?_).2 hmem)
  · by_contra hne
    exact hdistinct.forall ha ((hmem b).2 hb) hne (hab.antisymm hba)
  · exact hl.imp fun h => by rintro rfl; exact h.ne rfl
  · exact hm.imp fun h => h.2

/-! ## The placement of a frame -/

/-- The heaters with their frame demands, placed. -/
def groupsPlaced (s : State) : State := placeGroups (frameGroups s) (mapHeaters demanded s)

theorem placeFrame_eq (s : State) : placeFrame s = mapHeaters starved (groupsPlaced s) := by
  unfold placeFrame groupsPlaced placeGroups frameGroups promotedGroup otherGroup
  simp only [takeDemand_eq, updateStarve_eq, allHeaters_setHeater, List.foldl_append, List.foldl_map]
  rfl

/-- The record that a frame boundary leaves of an installed heater, before its command is set. -/
def frameRecord (w : Placement) (r : HeaterFrame) : HeaterFrame :=
  let promoted := decide (r.starve = 3)
  let frame := if r.hold = .none then r.requested else 0
  { r with
    frame := frame, promoted := promoted, placed := w.placed, granted := w.granted
    starve :=
      if promoted then 0
      else if 0 < frame ∧ w.granted < frame then min 3 (r.starve + 1)
      else 0 }

/-- The walks of a frame, in the order of the groups. -/
def frameWalks (s : State) : List (Heater × Placement) :=
  walks (mapHeaters demanded s) (promotedGroup s ++ otherGroup s) s.pfs.capacity

theorem groupsPlaced_cfg (s : State) : (groupsPlaced s).cfg = s.cfg :=
  foldl_keeps (g := State.cfg) (fun t p => by simp) _ _

theorem placeFrame_capacity (s : State) :
    (placeFrame s).pfs.capacity = capacityAfter (frameWalks s) s.pfs.capacity := by
  have hspec := (placeGroups_spec (frameGroups_nodup s) (mapHeaters demanded s)).1
  rw [frameGroups_heaters] at hspec
  rw [placeFrame_eq]
  exact hspec

/-- Each installed heater takes the placement of its own walk (R57, R58, R59). -/
theorem placeFrame_heater {s : State} (hranks : ∀ h, (s.install h).rank ≤ 6) {h : Heater}
    (hi : (s.install h).installed = true) :
    ∃ w, (h, w) ∈ frameWalks s ∧ (placeFrame s).heater h = frameRecord w (s.heater h) := by
  obtain ⟨w, hw, hplaced⟩ := (placeGroups_spec (frameGroups_nodup s) (mapHeaters demanded s)).2
    (h, decide ((s.heater h).starve = 3)) ((mem_frameGroups hranks h).2 hi)
  rw [frameGroups_heaters] at hw
  refine ⟨w, hw, ?_⟩
  have hcfg : (s.cfg.heaters.get h).installed = true := hi
  rw [placeFrame_eq, mapHeaters_heater, groupsPlaced_cfg, groupsPlaced, hplaced, mapHeaters_heater]
  simp only [starved, demanded, hcfg, if_true]
  rfl

/-- A heater that is not installed keeps its record. -/
theorem placeFrame_uninstalled {s : State} {h : Heater} (hi : (s.install h).installed = false) :
    (placeFrame s).heater h = s.heater h := by
  have hcfg : (s.cfg.heaters.get h).installed = false := hi
  rw [placeFrame_eq, mapHeaters_heater, groupsPlaced_cfg, groupsPlaced,
    placeGroups_heater_of_notMem _ (notMem_frameGroups hi), mapHeaters_heater]
  simp [starved, demanded, hcfg]

/-- The scheduler without what a placement writes. -/
def frameClock (p : Pfs) : Pfs :=
  { p with capacity := Vector.replicate 32 0, heaters := PerHeater.const HeaterFrame.reset }

theorem eq_of_frameClock {p q : Pfs} (h : frameClock p = frameClock q) :
    p = { q with capacity := p.capacity, heaters := p.heaters } := by
  cases p; cases q
  simp only [frameClock, Pfs.mk.injEq] at h ⊢
  simp only [h, and_self]

theorem placeFrame_pfs (s : State) : (placeFrame s).pfs =
    { s.pfs with capacity := (placeFrame s).pfs.capacity, heaters := (placeFrame s).pfs.heaters } := by
  refine eq_of_frameClock ?_
  rw [placeFrame_eq]
  exact foldl_keeps (f := fun t (p : Heater × Bool) => placeHeater p.2 p.1 t)
    (g := fun t => frameClock t.pfs) (fun _ _ => rfl) (frameGroups s) (mapHeaters demanded s)

/-! ## The oven does not move the frame -/

theorem reportElement_drops (s : State) : Drops s (reportFault .ov .element s) := by
  unfold reportFault
  split
  · have hhalted : Drops s (haltChannel .ov .element s) :=
      .of_same (by simp) (by simp [haltChannel]) (by simp) (by simp) (by simp) (by simp) (by simp)
    exact (sync_silences (haltChannel_idle .ov .element s)).toDrops.after hhalted
  · exact .refl s

theorem fanSet_drops (s : State) : Drops s (fanSet s) := withOvr_drops rfl rfl rfl

theorem boostEnded_drops (s : State) : Drops s (boostEnded s) := withOvr_drops rfl rfl rfl

theorem boostSwitch_drops (s : State) : Drops s (boostSwitch s) := by
  by_cases h : s.ovr.boostEndPending = true
  · by_cases hset : s.ovr.context = .bake ∧ failedSet s .mode s.ovr.mode
    · rw [boostSwitch_fails h hset]
      exact (fanSet_drops _).after ((reportElement_drops _).after (boostEnded_drops s))
    · rw [boostSwitch_works h hset]
      exact (fanSet_drops _).after (boostEnded_drops s)
  · rw [boostSwitch_idle (Bool.eq_false_iff.2 h)]
    exact .refl s

theorem frameDemand_drops (o : OvenHeater) (d : Nat) (s : State) : Drops s (frameDemand o d s) := by
  have hrelay (i : Bool) (r : HeaterFrame) : (asked i d r).relay = r.relay := by
    unfold asked; split <;> rfl
  rw [frameDemand_eq]
  exact (Drops.setHeater _ (hrelay _ _)).after (withOvr_drops rfl rfl rfl)

theorem frameOven_drops (s : State) : Drops s (frameOven s) :=
  (Drops.foldl (fun t o => frameDemand_drops o _ t) _ _).after (boostSwitch_drops s)

/-- The state at a frame boundary once the oven has been asked. -/
@[irreducible] def frameAsked (s : State) : State := frameOven (openFrame s)

theorem frameAsked_eq (s : State) : frameOven (openFrame s) = frameAsked s := by unfold frameAsked; rfl

theorem frameAsked_install (s : State) (h : Heater) : (frameAsked s).install h = s.install h := by
  simp [← frameAsked_eq]

theorem frameAsked_slot (s : State) : (frameAsked s).pfs.slot = 0 := by
  rw [← frameAsked_eq, (frameOven_drops _).slot, openFrame_eq]
  rfl

/-! ## The boundary -/

theorem frameEvent_follows (s : State) :
    FollowsPlacement (placeFrame (frameAsked s)) (frameEvent s) := by
  unfold frameEvent
  rw [frameAsked_eq]
  exact setCommands_follows _

theorem placeFrame_slot (s : State) : (placeFrame s).pfs.slot = s.pfs.slot := by rw [placeFrame_pfs]

/-- What a frame boundary leaves of an installed heater. -/
theorem frameEvent_heater {s : State} (hranks : ∀ h, (s.install h).rank ≤ 6) {h : Heater}
    (hi : (s.install h).installed = true) :
    ∃ w, (h, w) ∈ frameWalks (frameAsked s) ∧ (frameEvent s).heater h =
      { frameRecord w ((frameAsked s).heater h) with relay := w.placed.get 0 } := by
  have hinstall := frameAsked_install s
  obtain ⟨w, hw, hplaced⟩ := placeFrame_heater (s := frameAsked s) (fun g => by rw [hinstall]; exact hranks g)
    (h := h) (by rw [hinstall]; exact hi)
  refine ⟨w, hw, ?_⟩
  rw [(frameEvent_follows s).heater, placeFrame_slot, frameAsked_slot, hplaced, commanded]
  simp [hinstall, hi, frameRecord]

theorem frameEvent_uninstalled {s : State} {h : Heater} (hi : (s.install h).installed = false) :
    (frameEvent s).heater h = (frameAsked s).heater h := by
  have hinstall := frameAsked_install s h
  rw [(frameEvent_follows s).heater, placeFrame_uninstalled (by rw [hinstall]; exact hi), commanded]
  simp [hinstall, hi]

/-- The walks of a frame, read from the records that the boundary leaves. -/
theorem walks_frameEvent {s : State} (hranks : ∀ h, (s.install h).rank ≤ 6) {l : List Heater}
    (hl : ∀ h ∈ l, (s.install h).installed = true) (c : Slots Nat) :
    walks (frameEvent s) l c = walks (mapHeaters demanded (frameAsked s)) l c := by
  refine walks_congr (by simp [← frameAsked_eq]) (fun h hh => ?_) c
  have hcfg : ((frameAsked s).cfg.heaters.get h).installed = true := by
    rw [← hl h hh, ← frameAsked_install s h]; rfl
  obtain ⟨w, -, hw⟩ := frameEvent_heater hranks (hl h hh)
  rw [hw, mapHeaters_heater, demanded, if_pos hcfg]
  rfl

/-- The groups of a frame are the only lists that hold their heaters in a strict order of the ranks. -/
theorem groups_eq {a : State} (hranks : ∀ h, (a.install h).rank ≤ 6) {first others : List Heater}
    (hfirst : ∀ h, h ∈ first ↔ (a.install h).installed = true ∧ (a.heater h).starve = 3)
    (hothers : ∀ h, h ∈ others ↔ (a.install h).installed = true ∧ (a.heater h).starve ≠ 3)
    (hf : first.Pairwise fun g h => (a.install g).rank < (a.install h).rank)
    (ho : others.Pairwise fun g h => (a.install g).rank < (a.install h).rank) :
    first ++ others = promotedGroup a ++ otherGroup a := by
  have hpairs := rankOrder_pairwise a
  rw [eq_of_sorted (fun h => (hfirst h).trans (mem_promotedGroup hranks h).symm) hf (hpairs.filter _),
    eq_of_sorted (fun h => (hothers h).trans (mem_otherGroup hranks h).symm) ho (hpairs.filter _)]

/-- The placement leaves every command as it was. -/
theorem placeFrame_relay {s : State} (hranks : ∀ h, (s.install h).rank ≤ 6) (h : Heater) :
    ((placeFrame s).heater h).relay = (s.heater h).relay := by
  cases hi : (s.install h).installed
  · rw [placeFrame_uninstalled hi]
  · obtain ⟨w, -, hw⟩ := placeFrame_heater hranks hi
    rw [hw]
    rfl

/-- The walks of a frame boundary, by the lists of its groups. -/
theorem frameEvent_walks {s : State} (hranks : ∀ h, (s.install h).rank ≤ 6) :
    let all := walks (frameEvent s) (promotedGroup (frameAsked s) ++ otherGroup (frameAsked s))
      (frameAsked s).pfs.capacity
    (∀ q ∈ all, ((frameEvent s).heater q.1).placed = q.2.placed ∧
      ((frameEvent s).heater q.1).granted = q.2.granted) ∧
    (frameEvent s).pfs.capacity = capacityAfter all (frameAsked s).pfs.capacity := by
  have hinstall := frameAsked_install s
  have hgroups {h : Heater} (hh : h ∈ promotedGroup (frameAsked s) ++ otherGroup (frameAsked s)) :
      (s.install h).installed = true := by
    rw [← frameGroups_heaters] at hh
    rw [← hinstall]
    by_contra hi
    exact notMem_frameGroups (Bool.eq_false_iff.2 hi) hh
  dsimp only
  rw [walks_frameEvent hranks fun _ => hgroups]
  refine ⟨fun q hq => ?_, ?_⟩
  · obtain ⟨w, hw, hheater⟩ := frameEvent_heater hranks (hgroups (walk_of_mem_walks hq).1)
    have hnodup := frameGroups_nodup (frameAsked s)
    rw [frameGroups_heaters] at hnodup
    rw [hheater, walks_unique hnodup (v := q.2) hq hw]
    simp [frameRecord]
  · rw [(frameEvent_follows s).capacity, placeFrame_capacity, frameWalks]

theorem frameEvent_eq (s : State) :
    let t := frameEvent s
    t = { frameAsked s with pfs := t.pfs, out := t.out, ovr := t.ovr } := by
  apply eq_of_outputs <;> simp [frameEvent, frameAsked_eq]

theorem exec_frameBoundary_stopped {s : State} (h : s.pfs.sched = .stopped) :
    exec .frameBoundary s = .next s := by
  show Host.Outcome.next (if s.pfs.sched = .stopped then s else frameEvent s) = .next s
  rw [if_pos h]

theorem exec_frameBoundary {s : State} (h : s.pfs.sched ≠ .stopped) :
    exec .frameBoundary s = .next (frameEvent s) := by
  show Host.Outcome.next (if s.pfs.sched = .stopped then s else frameEvent s) = .next (frameEvent s)
  rw [if_neg h]

/-- Settles O38: the oven's demands, the placement, then every command follows its placement. -/
theorem frameBoundaryPlacesTheHeaters : Obligations.FrameBoundaryPlacesTheHeaters := by
  intro s
  refine ⟨exec_frameBoundary_stopped, fun h hranks => ?_⟩
  have hexec := exec_frameBoundary h
  have hinstall := frameAsked_install s
  have hranked (g : Heater) : ((frameAsked s).install g).rank ≤ 6 := by rw [hinstall]; exact hranks g
  obtain ⟨-, houts, hpfs, hout, hchanged, hsame, -⟩ := frameEvent_follows s
  have hheater {g : Heater} := frameEvent_heater hranks (h := g)
  have huninstalled {g : Heater} := frameEvent_uninstalled (s := s) (h := g)
  have hwalks := frameEvent_walks hranks
  have heq := frameEvent_eq s
  have hplaced : (placeFrame (frameAsked s)).ovr = (frameAsked s).ovr ∧
      (placeFrame (frameAsked s)).out = (frameAsked s).out ∧
      ∀ g, (placeFrame (frameAsked s)).heaterOut g = (frameAsked s).heaterOut g := by simp
  obtain ⟨hovr, hstage, hrecords⟩ := hplaced
  simp only [placeFrame_relay hranked, hovr, hstage, hrecords, State.tempF] at houts hchanged hsame hout
  rw [placeFrame_pfs] at hpfs
  dsimp only
  rw [frameAsked_eq]
  generalize frameEvent s = t at *
  generalize frameAsked s = a at *
  refine ⟨t, hexec, fun g hg => ?_, fun g hg => huninstalled hg,
    fun g => ?_, fun first others hfirst hothers hf ho => ?_, ?_, hout, hchanged, hsame, heq⟩
  · obtain ⟨w, -, hw⟩ := hheater hg
    rw [hw]
    rfl
  · simpa [hinstall] using houts g
  · have hlists : first ++ others = _ := groups_eq hranked (by simpa [hinstall] using hfirst)
      (by simpa [hinstall] using hothers) (by simpa [hinstall] using hf) (by simpa [hinstall] using ho)
    rw [hlists]
    exact hwalks
  · rw [hpfs]

end Sys2Proof.Proofs
end

section
/-! The invariant of the power frame (R60, R68, R70), taken apart: what concerns one heater's record, what
the placements draw, and how the scheduler stands to the plant. -/

namespace Sys2Proof.Proofs

open Sys2Proof Sys2Proof.Machine Sys2Proof.Claims Sys2Proof.Safety

/-! ## The parts of the invariant -/

/-- What the invariant asks of one heater's record, while the scheduler runs or not and with a slot. -/
structure HeaterFits (running : Prop) (installed : Bool) (slot : Fin 32) (r : HeaterFrame) : Prop where
  relay : r.relay = true →
    running ∧ installed = true ∧ r.placed.get slot = true ∧ r.hold = .none
  held : r.hold ≠ .none → r.frame = 0
  unplaced : r.frame = 0 → r.placed = noSlots
  asked : running → installed = true → r.requested = 0 → r.frame = 0

/-- Every heater's record fits. -/
def HeatersFit (s : State) : Prop :=
  ∀ h, HeaterFits (s.pfs.sched = .running) (s.install h).installed s.pfs.slot (s.heater h)

/-- The placements and the capacity left make up at most the budget (R60). -/
def WithinBudget (s : State) : Prop := ∀ i, slotLoad s i + s.pfs.capacity.get i ≤ s.cfg.budget.getD 0

/-- The scheduler's part of the invariant. -/
structure FrameSound (s : State) : Prop where
  load : s.pfs.sched = .running → WithinBudget s
  fits : HeatersFit s
  ranks : ∀ h, (s.install h).rank ≤ 6

/-- How the scheduler stands to the plant: the other part. -/
structure PlantSound (s : State) : Prop where
  operating : s.pfs.sched ≠ .stopped → s.cfg.part = .operating
  contactor : s.out.contactor = .closed → s.cfg.part = .operating
  closed : s.pfs.sched ≠ .stopped → s.out.supplyOff = false → s.out.contactor = .closed
  configuring : s.cfg.part = .configuring → s.out.supplyOff = false
  failed : ∀ h, (s.heaterOut h).failed = true → (s.heater h).hold ≠ .none
  supply : s.out.supplyOff = true → ∀ h, (s.install h).installed = true → (s.heater h).hold ≠ .none

theorem powerInv_iff (s : State) : PowerInv s ↔ FrameSound s ∧ PlantSound s where
  mp inv :=
    ⟨⟨inv.load, fun h => ⟨inv.relay h, inv.held h, inv.unplaced h, fun hr => inv.asked hr h⟩, inv.ranks⟩,
      ⟨inv.operating, inv.contactor, inv.closed, inv.configuring, inv.failed, inv.supply⟩⟩
  mpr parts := by
    obtain ⟨frame, plant⟩ := parts
    exact
      { load := frame.load
        relay := fun h => (frame.fits h).relay
        operating := plant.operating
        contactor := plant.contactor
        closed := plant.closed
        configuring := plant.configuring
        failed := plant.failed
        supply := plant.supply
        held := fun h => (frame.fits h).held
        unplaced := fun h => (frame.fits h).unplaced
        asked := fun hr h => (frame.fits h).asked hr
        ranks := frame.ranks }

/-! ## What the placements draw -/

section

variable {s t : State} {i : Fin 32} {h : Heater}

theorem placedWatts_congr (hc : t.cfg = s.cfg) (hp : (t.heater h).placed = (s.heater h).placed) :
    placedWatts t i h = placedWatts s i h := by
  unfold placedWatts State.install
  rw [hc, hp]

/-- A heater without a placement draws nothing. -/
theorem placedWatts_noSlots (hp : (s.heater h).placed = noSlots) : placedWatts s i h = 0 := by
  simp [placedWatts, hp]

theorem placedWatts_uninstalled (hi : (s.install h).installed = false) : placedWatts s i h = 0 := by
  simp [placedWatts, hi]

/-- Less is drawn where no heater draws more. -/
theorem slotLoad_le (hw : ∀ g, placedWatts t i g ≤ placedWatts s i g) : slotLoad t i ≤ slotLoad s i :=
  List.sum_le_sum fun g _ => hw g

/-- A change at one heater changes the load by what that heater draws. -/
theorem slotLoad_change (hw : ∀ g, g ≠ h → placedWatts t i g = placedWatts s i g) :
    slotLoad t i + placedWatts s i h = slotLoad s i + placedWatts t i h := by
  cases h <;> simp [slotLoad, allHeaters, hw] <;> omega

end

/-! ## A placement draws what it takes from the capacity -/

section

variable {P d : Nat} {order : List (Fin 32)} {capacity : Slots Nat}

/-- The walk of a heater that has no placement yet. -/
def walkFrom (P d : Nat) (order : List (Fin 32)) (capacity : Slots Nat) : Placement :=
  placeWalk P d order { capacity := capacity, placed := noSlots, granted := 0 }

/-- Each slot that a walk places loses the rating, and had it (R58). -/
theorem walkFrom_draws (horder : order.Nodup) (i : Fin 32) :
    (walkFrom P d order capacity).capacity.get i +
      (if (walkFrom P d order capacity).placed.get i = true then P else 0) = capacity.get i := by
  obtain ⟨-, hslots⟩ := placeWalk_spec P d horder { capacity := capacity, placed := noSlots, granted := 0 }
  obtain ⟨hplaced, hcapacity⟩ := hslots i
  unfold walkFrom
  rw [hplaced, hcapacity]
  by_cases hi : i ∈ takenSlots P d order { capacity := capacity, placed := noSlots, granted := 0 }
  · have hroom : P ≤ capacity.get i := room_of_mem_takenSlots hi
    simp [hi, hroom]
  · simp [hi]

/-- A walk toward no slots places none. -/
theorem walkFrom_zero : (walkFrom P 0 order capacity).placed = noSlots := by
  unfold walkFrom
  induction order with
  | nil => rfl
  | cons i order ih => rw [placeWalk_passes (by simp), ih]

end

/-- A heater's record is written with the placement of its walk, and the capacities with what that leaves. -/
def placedBy (h : Heater) (w : Placement) (r : HeaterFrame) (s : State) : State :=
  (s.withPfs { s.pfs with capacity := w.capacity }).setHeater h { r with placed := w.placed }

section

variable (h : Heater) (w : Placement) (r : HeaterFrame) (s : State)

theorem placedBy_cfg : (placedBy h w r s).cfg = s.cfg := rfl
theorem placedBy_install (g : Heater) : (placedBy h w r s).install g = s.install g := rfl
theorem placedBy_sched : (placedBy h w r s).pfs.sched = s.pfs.sched := rfl
theorem placedBy_slot : (placedBy h w r s).pfs.slot = s.pfs.slot := rfl
theorem placedBy_capacity : (placedBy h w r s).pfs.capacity = w.capacity := rfl

theorem placedBy_heater (g : Heater) :
    (placedBy h w r s).heater g = if g = h then { r with placed := w.placed } else s.heater g :=
  State.setHeater_heater _ _ _ _

end

/-- A placement from the capacity left keeps within the budget (R58, R60). -/
theorem placedBy_within {h : Heater} {s : State} (hs : WithinBudget s)
    (hnone : ∀ i, placedWatts s i h = 0) {d : Nat} {order : List (Fin 32)} (horder : order.Nodup)
    (r : HeaterFrame) :
    WithinBudget (placedBy h (walkFrom (s.install h).rating d order s.pfs.capacity) r s) := by
  intro i
  have hbefore := hs i
  have hdraws := walkFrom_draws (P := (s.install h).rating) (d := d) (capacity := s.pfs.capacity) horder i
  generalize walkFrom (s.install h).rating d order s.pfs.capacity = w at *
  have hchange := slotLoad_change (h := h) (i := i) (s := s) (t := placedBy h w r s) fun g hg =>
    placedWatts_congr rfl (by rw [placedBy_heater, if_neg hg])
  have hwatts : placedWatts (placedBy h w r s) i h ≤
      if w.placed.get i = true then (s.install h).rating else 0 := by
    rw [placedWatts, placedBy_heater, if_pos rfl, placedBy_install]
    split_ifs <;> simp_all
  rw [hnone i] at hchange
  rw [placedBy_capacity, placedBy_cfg]
  omega

end Sys2Proof.Proofs
end

section
/-! The power frame under a change of demand and a hold (R61 to R63, R68). -/

namespace Sys2Proof.Proofs

open Sys2Proof Sys2Proof.Machine Sys2Proof.Claims Sys2Proof.Safety

/-! ## One heater's record -/

namespace HeaterFits

variable {running : Prop} {installed : Bool} {slot : Fin 32} {r q : HeaterFrame}

/-- A heater without a placement is not commanded on. -/
theorem relay_off (hf : HeaterFits running installed slot r) (hp : r.placed = noSlots) : r.relay = false :=
  Bool.eq_false_iff.2 fun hr => by
    obtain ⟨-, -, hplaced, -⟩ := hf.relay hr
    simp [hp] at hplaced

/-- A record without demand, placement and command fits. -/
theorem of_idle (hr : q.relay = false) (hframe : q.frame = 0) (hp : q.placed = noSlots) :
    HeaterFits running installed slot q where
  relay h := by rw [hr] at h; cases h
  held _ := hframe
  unplaced _ := hp
  asked _ _ _ := hframe

/-- A placement that is taken away takes the command with it (R62). -/
theorem dropped (hf : HeaterFits running installed slot r)
    (hr : q.relay = (r.relay && !r.placed.get slot)) (hframe : q.frame = 0) (hp : q.placed = noSlots) :
    HeaterFits running installed slot q := by
  refine of_idle ?_ hframe hp
  rw [hr]
  cases hon : r.relay
  · rfl
  · obtain ⟨-, -, hplaced, -⟩ := hf.relay hon
    rw [hplaced]; rfl

end HeaterFits

/-! ## A change at one heater -/

section

variable {s t : State} {h : Heater}

/-- A record written in one heater's place keeps the scheduler's part. -/
theorem FrameSound.change (hs : FrameSound s) (hcfg : t.cfg = s.cfg) (hsched : t.pfs.sched = s.pfs.sched)
    (hslot : t.pfs.slot = s.pfs.slot) (hother : ∀ g, g ≠ h → t.heater g = s.heater g)
    (hload : s.pfs.sched = .running → WithinBudget t)
    (hfit : HeaterFits (s.pfs.sched = .running) (s.install h).installed s.pfs.slot (t.heater h)) :
    FrameSound t where
  load hr := hload (hsched ▸ hr)
  fits g := by
    unfold State.install
    rw [hsched, hslot, hcfg]
    by_cases hg : g = h
    · rw [hg]; exact hfit
    · rw [hother g hg]; exact hs.fits g
  ranks g := by unfold State.install; rw [hcfg]; exact hs.ranks g

/-- Placements that stay or are taken away, with their capacity withheld (R62). -/
theorem WithinBudget.shrink (hs : WithinBudget s) (hcfg : t.cfg = s.cfg)
    (hcapacity : t.pfs.capacity = s.pfs.capacity)
    (hplaced : ∀ g, (t.heater g).placed = (s.heater g).placed ∨ (t.heater g).placed = noSlots) :
    WithinBudget t := by
  intro i
  have hload : slotLoad t i ≤ slotLoad s i := slotLoad_le fun g => by
    obtain hp | hp := hplaced g
    · rw [placedWatts_congr hcfg hp]
    · rw [placedWatts_noSlots hp]; exact Nat.zero_le _
  rw [hcfg, hcapacity]
  exact (Nat.add_le_add_right hload _).trans (hs i)

/-- A record written with the same placement. -/
theorem FrameSound.setHeater (hs : FrameSound s) {r : HeaterFrame}
    (hp : r.placed = (s.heater h).placed)
    (hfit : HeaterFits (s.pfs.sched = .running) (s.install h).installed s.pfs.slot r) :
    FrameSound (s.setHeater h r) := by
  refine hs.change rfl rfl rfl (fun g => State.setHeater_heater_of_ne _ _) (fun hr => ?_)
    (h := h) (by rw [State.setHeater_heater_self]; exact hfit)
  refine (hs.load hr).shrink rfl rfl fun g => .inl ?_
  rw [State.setHeater_heater]
  split
  next hg => rw [hg, hp]
  next => rfl

/-- A placement is taken away from a record that has changed in other fields (R62). -/
theorem FrameSound.drop (hs : FrameSound s) {r : HeaterFrame} (hr : r.relay = (s.heater h).relay)
    (hp : r.placed = (s.heater h).placed) : FrameSound (dropHeater h (s.setHeater h r)) := by
  have hdrops : Drops s (dropHeater h (s.setHeater h r)) := (dropHeater_drops h _).after (.setHeater h hr)
  have hheater (g : Heater) := dropHeater_heater h g (s.setHeater h r)
  simp only [State.setHeater_heater_self, State.setHeater_pfs_slot] at hheater
  have hother (g : Heater) (hg : g ≠ h) : (dropHeater h (s.setHeater h r)).heater g = s.heater g := by
    rw [hheater, if_neg hg, State.setHeater_heater_of_ne _ _ hg]
  refine hs.change hdrops.cfg hdrops.sched hdrops.slot hother (fun hrun => ?_) (h := h) ?_
  · refine (hs.load hrun).shrink hdrops.cfg (by rw [hdrops.pfs]) fun g => ?_
    by_cases hg : g = h
    · right; rw [hheater, if_pos hg]
    · left; rw [hother g hg]
  · rw [hheater, if_pos rfl]
    refine (hs.fits h).dropped ?_ rfl rfl
    rw [hr, hp]

end

/-! ## A change of demand -/

/-- The walk of a rise to d in the current slot (R63). -/
def lateWalked (h : Heater) (d : Nat) (s : State) : Placement :=
  walkFrom (s.install h).rating (d * (31 - s.pfs.slot.val) / 32) (lateWalk s.pfs.slot) s.pfs.capacity

/-- All that a change of demand can do (R61). -/
theorem demandChange_cases (h : Heater) (d : Nat) (s : State) :
    let r := s.heater h
    demandChange h d s = s ∨
    (s.pfs.sched = .running → d ≠ 0) ∧ demandChange h d s = s.setHeater h { r with requested := d } ∨
    demandChange h d s = dropHeater h (s.setHeater h { r with requested := d }) ∨
    (s.pfs.sched = .running ∧ r.hold = .none ∧ r.requested = 0 ∧ 0 < d) ∧
      demandChange h d s = placedBy h (lateWalked h d s)
        { r with requested := d, frame := d, late := true, granted := (lateWalked h d s).granted } s := by
  dsimp only
  by_cases hhold : (s.heater h).hold = .none
  · cases hsched : s.pfs.sched
    case stopped => exact .inl (demandChange_stopped hsched)
    case starting => exact .inr (.inl ⟨fun hr => absurd hr (by decide), demandChange_starting hhold hsched⟩)
    case running =>
      by_cases hd : d = (s.heater h).requested
      · exact .inl (demandChange_same hsched hd)
      · have hclass := demandChange_running hhold hsched hd
        dsimp only at hclass
        by_cases hzero : d = 0
        · exact .inr (.inr (.inl (hclass.trans (if_pos hzero))))
        · rw [if_neg hzero] at hclass
          by_cases hwas : (s.heater h).requested = 0
          · rw [if_pos hwas, latePlace_setHeater] at hclass
            exact .inr (.inr (.inr ⟨⟨rfl, hhold, hwas, Nat.pos_of_ne_zero hzero⟩, hclass⟩))
          · exact .inr (.inl ⟨fun _ => hzero, hclass.trans (if_neg hwas)⟩)
  · exact .inl (demandChange_held hhold)

/-- A late placement draws on what is left (R63). -/
theorem FrameSound.rise {s : State} (hs : FrameSound s) {h : Heater} {d : Nat}
    (hrun : s.pfs.sched = .running) (hzero : (s.heater h).requested = 0) {r : HeaterFrame}
    (hrelay : r.relay = (s.heater h).relay) (hhold : r.hold = .none) (hframe : 0 < r.frame)
    (hrequested : 0 < r.requested) : FrameSound (placedBy h (lateWalked h d s) r s) := by
  have hfits := hs.fits h
  have hunplaced (hi : (s.install h).installed = true) : (s.heater h).placed = noSlots :=
    hfits.unplaced (hfits.asked hrun hi hzero)
  have hoff : r.relay = false := by
    rw [hrelay]
    by_contra hr
    obtain ⟨-, hi, -⟩ := hfits.relay (Bool.eq_true_of_not_eq_false hr)
    exact hr (hfits.relay_off (hunplaced hi))
  have hnone (i : Fin 32) : placedWatts s i h = 0 := by
    cases hi : (s.install h).installed
    · exact placedWatts_uninstalled hi
    · exact placedWatts_noSlots (hunplaced hi)
  refine hs.change (placedBy_cfg ..) (placedBy_sched ..) (placedBy_slot ..)
    (fun g hg => by rw [placedBy_heater, if_neg hg])
    (fun hr => placedBy_within (hs.load hr) hnone (lateWalk_nodup _) _) (h := h) ?_
  rw [placedBy_heater, if_pos rfl]
  exact
    { relay := fun hr => by rw [show r.relay = true from hr] at hoff; cases hoff
      held := fun hh => absurd hhold hh
      unplaced := fun hf => absurd hf hframe.ne'
      asked := fun _ _ hf => absurd hf hrequested.ne' }

/-- A change of demand keeps the scheduler's part (R61 to R63). -/
theorem demandChange_sound {s : State} (hs : FrameSound s) (h : Heater) (d : Nat) :
    FrameSound (demandChange h d s) := by
  have hfits := hs.fits h
  obtain heq | ⟨hd, heq⟩ | heq | ⟨⟨hrun, hhold, hzero, hd⟩, heq⟩ := demandChange_cases h d s <;> rw [heq]
  · exact hs
  · exact hs.setHeater rfl
      ⟨hfits.relay, hfits.held, hfits.unplaced, fun hr _ hzero => absurd hzero (hd hr)⟩
  · exact hs.drop rfl rfl
  · exact hs.rise hrun hzero rfl hhold hd hd

/-- A hold keeps the scheduler's part (R68). -/
theorem holdHeater_sound {s : State} (hs : FrameSound s) (h : Heater) (cause : HoldCause) :
    FrameSound (holdHeater h cause s) := by
  have hfits := hs.fits h
  unfold holdHeater
  dsimp only
  split_ifs with hheld hframe
  · exact hs
  · exact hs.drop rfl rfl
  · have hzero : (s.heater h).frame = 0 := Nat.eq_zero_of_not_pos hframe
    have hplaced := hfits.unplaced hzero
    exact hs.setHeater rfl (.of_idle (hfits.relay_off hplaced) hzero hplaced)

/-! ## What stands to the plant -/

/-- From s to t the contactor, the supply-off flag and the FAILED flags stay, a held heater stays held, and
the scheduler does not leave STOPPED. -/
structure PlantKept (s t : State) : Prop where
  cfg : t.cfg = s.cfg
  sched : t.pfs.sched ≠ .stopped → s.pfs.sched ≠ .stopped
  contactor : t.out.contactor = s.out.contactor
  supplyOff : t.out.supplyOff = s.out.supplyOff
  failed : ∀ h, (t.heaterOut h).failed = (s.heaterOut h).failed
  hold : ∀ h, (s.heater h).hold ≠ .none → (t.heater h).hold ≠ .none

namespace PlantKept

variable {s t u : State}

theorem sound (k : PlantKept s t) (hs : PlantSound s) : PlantSound t where
  operating hr := by rw [k.cfg]; exact hs.operating (k.sched hr)
  contactor := by rw [k.contactor, k.cfg]; exact hs.contactor
  closed hr := by rw [k.supplyOff, k.contactor]; exact hs.closed (k.sched hr)
  configuring := by rw [k.cfg, k.supplyOff]; exact hs.configuring
  failed h := by rw [k.failed]; exact fun hf => k.hold h (hs.failed h hf)
  supply := by
    unfold State.install
    rw [k.supplyOff, k.cfg]
    exact fun hoff h hi => k.hold h (hs.supply hoff h hi)

theorem refl (s : State) : PlantKept s s := ⟨rfl, id, rfl, rfl, fun _ => rfl, fun _ => id⟩

/-- The last step first, then what came before it. -/
theorem after (k : PlantKept t u) (h : PlantKept s t) : PlantKept s u where
  cfg := k.cfg.trans h.cfg
  sched hr := h.sched (k.sched hr)
  contactor := k.contactor.trans h.contactor
  supplyOff := k.supplyOff.trans h.supplyOff
  failed g := (k.failed g).trans (h.failed g)
  hold g hg := k.hold g (h.hold g hg)

theorem handed_failed (i a b : Bool) (r : HeaterOut) : (handed i a b r).failed = r.failed := by
  unfold handed
  split_ifs <;> rfl

/-- Demands that are dropped, with the holds kept. -/
theorem of_drops (d : Drops s t) (hold : ∀ h, (s.heater h).hold ≠ .none → (t.heater h).hold ≠ .none) :
    PlantKept s t where
  cfg := d.cfg
  sched := by rw [d.sched]; exact id
  contactor := by rw [d.out]
  supplyOff := by rw [d.out]
  failed h := by rw [d.outs, handed_failed]
  hold := hold

theorem setHeater {h : Heater} {r : HeaterFrame}
    (hr : (s.heater h).hold ≠ .none → r.hold ≠ .none) : PlantKept s (s.setHeater h r) where
  cfg := rfl
  sched := id
  contactor := rfl
  supplyOff := rfl
  failed _ := rfl
  hold g hg := by
    rw [State.setHeater_heater]
    split
    next he => exact hr (he ▸ hg)
    next => exact hg

theorem dropHeater (h : Heater) (s : State) : PlantKept s (dropHeater h s) :=
  of_drops (dropHeater_drops h s) fun g hg => by
    rw [dropHeater_heater]
    split
    next he => exact he ▸ hg
    next => exact hg

end PlantKept

theorem demandChange_kept (h : Heater) (d : Nat) (s : State) : PlantKept s (demandChange h d s) := by
  have hrequested : PlantKept s (s.setHeater h { s.heater h with requested := d }) := .setHeater id
  obtain heq | ⟨-, heq⟩ | heq | ⟨-, heq⟩ := demandChange_cases h d s <;> rw [heq]
  · exact .refl s
  · exact hrequested
  · exact (PlantKept.dropHeater h _).after hrequested
  · exact
      { cfg := placedBy_cfg ..
        sched := by rw [placedBy_sched]; exact id
        contactor := rfl
        supplyOff := rfl
        failed := fun _ => rfl
        hold := fun g hg => by
          rw [placedBy_heater]
          split
          next he => exact he ▸ hg
          next => exact hg }

theorem holdHeater_kept (h : Heater) {cause : HoldCause} (hcause : cause ≠ .none) (s : State) :
    PlantKept s (holdHeater h cause s) := by
  have hheld : PlantKept s (s.setHeater h { s.heater h with hold := cause, requested := 0 }) :=
    .setHeater fun _ => hcause
  unfold holdHeater
  dsimp only
  split_ifs
  · exact .refl s
  · exact (PlantKept.dropHeater h _).after hheld
  · exact hheld

/-- A heater is held by its hold. -/
theorem holdHeater_holds (h : Heater) {cause : HoldCause} (hcause : cause ≠ .none) (s : State) :
    ((holdHeater h cause s).heater h).hold ≠ .none := by
  unfold holdHeater
  dsimp only
  split_ifs with hheld
  · exact hheld
  · rw [dropHeater_heater, if_pos rfl, State.setHeater_heater_self]; exact hcause
  · rw [State.setHeater_heater_self]; exact hcause

theorem demandChange_power {s : State} (hs : PowerInv s) (h : Heater) (d : Nat) :
    PowerInv (demandChange h d s) := by
  obtain ⟨hframe, hplant⟩ := (powerInv_iff s).1 hs
  exact (powerInv_iff _).2 ⟨demandChange_sound hframe h d, (demandChange_kept h d s).sound hplant⟩

end Sys2Proof.Proofs
end

section
/-! The boundaries keep the invariant of the power frame (R53, R54, R57, R58, R60, R70). -/

namespace Sys2Proof.Proofs

open Sys2Proof Sys2Proof.Machine Sys2Proof.Claims Sys2Proof.Safety

/-! ## What the oven leaves of the records at a frame boundary -/

/-- From r to q the hold stays, a command only goes off, and the placement stays with the frame demand or
both are gone. -/
structure Dwindled (r q : HeaterFrame) : Prop where
  hold : q.hold = r.hold
  relay : q.relay = true → r.relay = true
  placed : q.placed = r.placed ∧ q.frame = r.frame ∨ q.placed = noSlots ∧ q.frame = 0

namespace Dwindled

variable {r q p : HeaterFrame}

theorem refl (r : HeaterFrame) : Dwindled r r := ⟨rfl, id, .inl ⟨rfl, rfl⟩⟩

theorem trans (h1 : Dwindled r q) (h2 : Dwindled q p) : Dwindled r p where
  hold := h2.hold.trans h1.hold
  relay h := h1.relay (h2.relay h)
  placed := by
    obtain ⟨hp, hf⟩ | hgone := h2.placed
    · rw [hp, hf]; exact h1.placed
    · exact .inr hgone

theorem noSlots (h : Dwindled r q) (hr : r.placed = Machine.noSlots) : q.placed = Machine.noSlots :=
  h.placed.elim (fun hp => hp.1.trans hr) fun hp => hp.1

end Dwindled

theorem dropped_dwindled (s : State) (h : Heater) : Dwindled (s.heater h) (dropped s h) := by
  unfold dropped
  dsimp only
  split
  · exact .refl _
  · split
    · exact .refl _
    · exact ⟨rfl, id, .inl ⟨rfl, rfl⟩⟩
    · exact ⟨rfl, fun h => (Bool.and_eq_true_iff.1 h).1, .inr ⟨rfl, rfl⟩⟩

/-- Every heater's record has dwindled. -/
def Dwindles (s t : State) : Prop := ∀ h, Dwindled (s.heater h) (t.heater h)

namespace Dwindles

variable {s t u : State}

theorem of_same (hp : t.pfs = s.pfs) : Dwindles s t := fun h => by
  unfold State.heater; rw [hp]; exact .refl _

/-- The last step first, then what came before it. -/
theorem after (h2 : Dwindles t u) (h1 : Dwindles s t) : Dwindles s u := fun h => (h1 h).trans (h2 h)

theorem foldl {α : Type} {f : State → α → State} (hf : ∀ s a, Dwindles s (f s a)) (l : List α)
    (s : State) : Dwindles s (l.foldl f s) := by
  induction l generalizing s with
  | nil => exact of_same rfl
  | cons a l ih => exact (ih _).after (hf s a)

end Dwindles

theorem handZero_dwindles (s : State) (o : OvenHeater) : Dwindles s (handDemand o 0 s) := fun h => by
  rw [handZero_heater]
  split
  · exact dropped_dwindled s h
  · exact .refl _

/-- A fault of the oven takes its demands away. -/
theorem reportElement_dwindles (s : State) : Dwindles s (reportFault .ov .element s) := by
  unfold reportFault
  split
  · have hidle := syncOven_idle (haltChannel_idle .ov .element s)
    have hzeros (t : State) (l : List OvenHeater) : Dwindles t (handZeros l t) :=
      .foldl handZero_dwindles l t
    have htaken (t : State) : Dwindles t (ovenTaken t) := fun h => by rw [ovenTaken_heater]; exact .refl _
    have hhalted : Dwindles s (haltChannel .ov .element s) := .of_same (by simp)
    have hrefreshed (t : State) : Dwindles t (refreshOven t) := .of_same rfl
    show Dwindles s (syncOven (haltChannel .ov .element s))
    rw [hidle]
    exact (hrefreshed _).after ((hzeros _ _).after ((htaken _).after hhalted))
  · exact .of_same rfl

theorem boostSwitch_dwindles (s : State) : Dwindles s (boostSwitch s) := by
  by_cases h : s.ovr.boostEndPending = true
  · by_cases hset : s.ovr.context = .bake ∧ failedSet s .mode s.ovr.mode
    · rw [boostSwitch_fails h hset]
      exact (Dwindles.of_same rfl).after ((reportElement_dwindles _).after (.of_same rfl))
    · rw [boostSwitch_works h hset]
      exact .of_same rfl
  · rw [boostSwitch_idle (Bool.eq_false_iff.2 h)]
    exact .of_same rfl

theorem asked_dwindled (i : Bool) (d : Nat) (r : HeaterFrame) : Dwindled r (asked i d r) := by
  unfold asked
  split
  · exact ⟨rfl, id, .inl ⟨rfl, rfl⟩⟩
  · exact .refl r

theorem frameDemand_dwindles (o : OvenHeater) (d : Nat) (s : State) : Dwindles s (frameDemand o d s) := by
  intro h
  rw [frameDemand_eq, State.setHeater_heater]
  split
  next he => rw [he]; exact asked_dwindled _ _ _
  next => exact .refl _

theorem frameOven_dwindles (s : State) : Dwindles s (frameOven s) :=
  (Dwindles.foldl (fun t o => frameDemand_dwindles o _ t) _ _).after (boostSwitch_dwindles s)

/-! ## The state once the oven has been asked -/

theorem openFrame_heater (s : State) (h : Heater) :
    (openFrame s).heater h = cleared s.cfg h (s.heater h) := by
  rw [openFrame_eq]
  exact PerHeater.get_map _ _ _

theorem openFrame_dwindled (s : State) (h : Heater) :
    Dwindled ((openFrame s).heater h) ((frameAsked s).heater h) := by
  rw [← frameAsked_eq]
  exact frameOven_dwindles (openFrame s) h

theorem frameAsked_drops (s : State) : Drops (openFrame s) (frameAsked s) := by
  rw [← frameAsked_eq]
  exact frameOven_drops _

section

variable (s : State) (h : Heater)

theorem frameAsked_cfg : (frameAsked s).cfg = s.cfg := by
  rw [(frameAsked_drops s).cfg, openFrame_eq]; rfl

theorem frameAsked_sched : (frameAsked s).pfs.sched = .running := by
  rw [(frameAsked_drops s).sched, openFrame_eq]; rfl

/-- Every slot has the whole budget left (R54 step 3). -/
theorem frameAsked_capacity : (frameAsked s).pfs.capacity = Vector.replicate 32 (s.cfg.budget.getD 0) := by
  rw [(frameAsked_drops s).pfs, openFrame_eq]; rfl

theorem frameAsked_hold : ((frameAsked s).heater h).hold = (s.heater h).hold := by
  rw [(openFrame_dwindled s h).hold, openFrame_heater, cleared]
  split <;> rfl

variable {s h}

/-- Every installed heater is without a placement. -/
theorem frameAsked_unplaced (hi : (s.install h).installed = true) :
    ((frameAsked s).heater h).placed = noSlots := by
  refine (openFrame_dwindled s h).noSlots ?_
  rw [openFrame_heater, cleared, if_pos (by exact hi)]

theorem frameAsked_uninstalled (hi : (s.install h).installed = false) :
    Dwindled (s.heater h) ((frameAsked s).heater h) := by
  have hcleared : (openFrame s).heater h = s.heater h := by
    rw [openFrame_heater, cleared, if_neg (by simpa [State.install] using hi)]
  rw [← hcleared]
  exact openFrame_dwindled s h

end

/-! ## The placement -/

/-- The placement of a frame, one heater after another, keeps within the budget (R57, R60). -/
theorem placeGroups_within {l : List (Heater × Bool)} (hl : (l.map Prod.fst).Nodup) {s : State}
    (hs : WithinBudget s) (hnone : ∀ p ∈ l, (s.heater p.1).placed = noSlots) :
    WithinBudget (placeGroups l s) := by
  induction l generalizing s with
  | nil => exact hs
  | cons p l ih =>
    obtain ⟨hnot, hnodup⟩ := List.nodup_cons.1 hl
    have hplaced : placeHeater p.2 p.1 s =
        placedBy p.1 (frameWalked s p.1 s.pfs.capacity) { s.heater p.1 with
          granted := (frameWalked s p.1 s.pfs.capacity).granted, promoted := p.2 } s := rfl
    have hwithin : WithinBudget (placeHeater p.2 p.1 s) := by
      rw [hplaced]
      exact placedBy_within hs (fun i => placedWatts_noSlots (hnone p List.mem_cons_self))
        (frameWalk_nodup _) _
    refine ih hnodup hwithin fun q hq => ?_
    have hne : q.1 ≠ p.1 := fun h => hnot (h ▸ List.mem_map_of_mem hq)
    rw [placeHeater_heater, if_neg hne]
    exact hnone q (List.mem_cons_of_mem p hq)

/-- A walk toward no slots places none. -/
theorem frameWalked_zero {s : State} {h : Heater} (hf : (s.heater h).frame = 0) (c : Slots Nat) :
    (frameWalked s h c).placed = noSlots := by
  unfold frameWalked
  rw [hf]
  exact walkFrom_zero

theorem mem_frameGroups_installed {s : State} {p : Heater × Bool} (hp : p ∈ frameGroups s) :
    (s.install p.1).installed = true := by
  by_contra hi
  exact notMem_frameGroups (Bool.eq_false_iff.2 hi) (List.mem_map_of_mem hp)

/-- A state whose placements and capacities are those of another. -/
theorem WithinBudget.congr {s t : State} (hs : WithinBudget s) (hcfg : t.cfg = s.cfg)
    (hcapacity : t.pfs.capacity = s.pfs.capacity) (hp : ∀ g, (t.heater g).placed = (s.heater g).placed) :
    WithinBudget t := hs.shrink hcfg hcapacity fun g => .inl (hp g)

theorem demanded_placed (cfg : Cfg) (h : Heater) (r : HeaterFrame) : (demanded cfg h r).placed = r.placed := by
  unfold demanded; split <;> rfl

theorem starved_placed (cfg : Cfg) (h : Heater) (r : HeaterFrame) : (starved cfg h r).placed = r.placed := by
  unfold starved; split <;> rfl

/-- Before the placement nothing is drawn and the budget is left whole. -/
theorem frameAsked_within (s : State) : WithinBudget (mapHeaters demanded (frameAsked s)) := by
  intro i
  have hwatts (g : Heater) : placedWatts (mapHeaters demanded (frameAsked s)) i g = 0 := by
    cases hi : (s.install g).installed
    · exact placedWatts_uninstalled (by rw [mapHeaters_install, frameAsked_install, hi])
    · exact placedWatts_noSlots (by rw [mapHeaters_heater, demanded_placed, frameAsked_unplaced hi])
  have hnone : slotLoad (mapHeaters demanded (frameAsked s)) i = 0 := by
    simp [slotLoad, allHeaters, hwatts]
  rw [hnone, mapHeaters_capacity, frameAsked_capacity, mapHeaters_cfg, frameAsked_cfg]
  simp [Vector.get_eq_getElem]

theorem frameEvent_within (s : State) : WithinBudget (frameEvent s) := by
  have hplaced : WithinBudget (groupsPlaced (frameAsked s)) :=
    placeGroups_within (frameGroups_nodup _) (frameAsked_within s) fun p hp => by
      have hi := mem_frameGroups_installed hp
      rw [frameAsked_install] at hi
      rw [mapHeaters_heater, demanded_placed, frameAsked_unplaced hi]
  have hframe : WithinBudget (placeFrame (frameAsked s)) := by
    rw [placeFrame_eq]
    exact hplaced.congr rfl rfl fun g => by rw [mapHeaters_heater, starved_placed]
  have hfollows := frameEvent_follows s
  refine hframe.congr (by simp [frameAsked_cfg]) hfollows.capacity fun g => ?_
  rw [hfollows.heater]
  rfl

/-! ## The boundaries -/

theorem frameEvent_sched (s : State) : (frameEvent s).pfs.sched = .running := by
  rw [(frameEvent_follows s).sched, placeFrame_pfs, frameAsked_sched]

theorem frameEvent_slot (s : State) : (frameEvent s).pfs.slot = 0 := by
  rw [(frameEvent_follows s).slot, placeFrame_slot, frameAsked_slot]

/-- A command that follows the placement is on only for a heater that is not held. -/
theorem HeaterFits.of_follows {running : Prop} {slot : Fin 32} {q : HeaterFrame} (hrun : running)
    (hrelay : q.relay = q.placed.get slot) (hheld : q.hold ≠ .none → q.frame = 0)
    (hunplaced : q.frame = 0 → q.placed = noSlots) (hasked : q.requested = 0 → q.frame = 0) :
    HeaterFits running true slot q where
  relay hon := by
    refine ⟨hrun, rfl, hrelay.symm.trans hon, ?_⟩
    by_contra hhold
    rw [hrelay, hunplaced (hheld hhold), noSlots_get] at hon
    cases hon
  held := hheld
  unplaced := hunplaced
  asked _ _ := hasked

/-- A heater that is not installed has no command, and keeps its placement or loses it. -/
theorem HeaterFits.dwindled {running : Prop} {slot : Fin 32} {r q : HeaterFrame} {before : Prop}
    (hf : HeaterFits before false slot r) (hq : Dwindled r q) (other : Fin 32) :
    HeaterFits running false other q where
  relay hr := by
    obtain ⟨-, hi, -⟩ := hf.relay (hq.relay hr)
    cases hi
  held hh := by
    rw [hq.hold] at hh
    obtain ⟨-, hframe⟩ | ⟨-, hframe⟩ := hq.placed
    · exact hframe.trans (hf.held hh)
    · exact hframe
  unplaced hz := by
    obtain ⟨hp, hframe⟩ | ⟨hp, -⟩ := hq.placed
    · exact hp.trans (hf.unplaced (hframe.symm.trans hz))
    · exact hp
  asked _ hi := by cases hi

theorem frameEvent_fits {s : State} (hs : FrameSound s) : HeatersFit (frameEvent s) := by
  intro h
  rw [frameEvent_slot, show (frameEvent s).install h = s.install h by simp]
  cases hi : (s.install h).installed
  · have hfits := hs.fits h
    rw [hi] at hfits
    rw [frameEvent_uninstalled hi]
    exact hfits.dwindled (frameAsked_uninstalled hi) 0
  · have hcfg : ((frameAsked s).cfg.heaters.get h).installed = true := by rw [frameAsked_cfg]; exact hi
    obtain ⟨w, hw, hheater⟩ := frameEvent_heater hs.ranks hi
    obtain ⟨-, c, hwalk⟩ := walk_of_mem_walks hw
    dsimp only at hwalk
    rw [hheater]
    refine .of_follows (frameEvent_sched s) rfl (fun hheld => if_neg hheld) (fun hzero => ?_) fun hzero => ?_
    · show w.placed = noSlots
      rw [hwalk]
      refine frameWalked_zero ?_ c
      rw [mapHeaters_heater, demanded, if_pos hcfg]
      exact hzero
    · exact (ite_eq_right_iff).2 fun _ => hzero

theorem frameEvent_hold {s : State} (hranks : ∀ h, (s.install h).rank ≤ 6) (h : Heater) :
    ((frameEvent s).heater h).hold = (s.heater h).hold := by
  rw [← frameAsked_hold s]
  cases hi : (s.install h).installed
  · rw [frameEvent_uninstalled hi]
  · obtain ⟨w, -, hheater⟩ := frameEvent_heater hranks hi
    rw [hheater]
    rfl

theorem frameEvent_kept {s : State} (hranks : ∀ h, (s.install h).rank ≤ 6)
    (hsched : s.pfs.sched ≠ .stopped) : PlantKept s (frameEvent s) := by
  have hfollows := frameEvent_follows s
  have hplaced : (placeFrame (frameAsked s)).out = (frameAsked s).out := by simp
  have hopened : (openFrame s).out = s.out ∧ ∀ h, (openFrame s).heaterOut h = s.heaterOut h := by simp
  have hout : (frameEvent s).out = { s.out with heaters := (frameEvent s).out.heaters } := by
    rw [hfollows.out, hplaced, (frameAsked_drops s).out, hopened.1]
  exact
    { cfg := by simp
      sched := fun _ => hsched
      contactor := by rw [hout]
      supplyOff := by rw [hout]
      failed := fun h => by
        rw [hfollows.outs, PlantKept.handed_failed, State.heaterOut, hplaced]
        show ((frameAsked s).heaterOut h).failed = _
        rw [(frameAsked_drops s).outs, PlantKept.handed_failed, hopened.2]
      hold := fun h => by rw [frameEvent_hold hranks]; exact id }

/-- A frame boundary keeps the invariant: its placements are new, from the whole budget. -/
theorem frameEvent_power {s : State} (hs : PowerInv s) (hsched : s.pfs.sched ≠ .stopped) :
    PowerInv (frameEvent s) := by
  obtain ⟨hframe, hplant⟩ := (powerInv_iff s).1 hs
  refine (powerInv_iff _).2 ⟨⟨fun _ => frameEvent_within s, frameEvent_fits hframe, fun h => ?_⟩,
    (frameEvent_kept hframe.ranks hsched).sound hplant⟩
  rw [show (frameEvent s).install h = s.install h by simp]
  exact hframe.ranks h

/-- A slot boundary keeps it: every command follows its placement in the new slot. -/
theorem slotEvent_power {s : State} (hs : PowerInv s) (hrun : s.pfs.sched = .running) :
    PowerInv (slotEvent s) := by
  obtain ⟨hframe, hplant⟩ := (powerInv_iff s).1 hs
  have hfollows := setCommands_follows (nextSlot s)
  rw [← slotEvent_eq] at hfollows
  have hinstall (h : Heater) : (slotEvent s).install h = s.install h := by simp
  have hcfg : (slotEvent s).cfg = s.cfg := by simp
  have hsched : (slotEvent s).pfs.sched = s.pfs.sched := hfollows.sched
  have hheater (h : Heater) : (slotEvent s).heater h =
      commanded (s.install h).installed (slotEvent s).pfs.slot (s.heater h) := by
    rw [hfollows.heater, hfollows.slot]
    rfl
  have hfits : HeatersFit (slotEvent s) := by
    intro h
    have hbefore := hframe.fits h
    rw [hsched, hinstall, hheater]
    cases hi : (s.install h).installed
    · rw [hi] at hbefore
      exact hbefore.dwindled ⟨rfl, id, .inl ⟨rfl, rfl⟩⟩ _
    · exact .of_follows hrun rfl hbefore.held hbefore.unplaced (hbefore.asked hrun hi)
  have hkept : PlantKept s (slotEvent s) :=
    { cfg := hcfg
      sched := by rw [hsched]; exact id
      contactor := by rw [hfollows.out]; rfl
      supplyOff := by rw [hfollows.out]; rfl
      failed := fun h => by rw [hfollows.outs, PlantKept.handed_failed]; rfl
      hold := fun h => by rw [hheater]; exact id }
  refine (powerInv_iff _).2 ⟨⟨fun _ => ?_, hfits, fun h => ?_⟩, hkept.sound hplant⟩
  · exact (hframe.load hrun).congr hcfg hfollows.capacity fun g => by rw [hheater]; rfl
  · rw [hinstall]; exact hframe.ranks h

end Sys2Proof.Proofs
end

section
/-! The invariant of the power frame: the operations on channels and the oven, and the findings. -/

namespace Sys2Proof.Proofs

open Sys2Proof Sys2Proof.Machine Sys2Proof.Claims Sys2Proof.Safety

/-! ## The state -/

/-- The scheduler's part depends on the configuration and on the scheduler but for its timer. -/
theorem FrameSound.congr {s t : State} (hs : FrameSound s) (hcfg : t.cfg = s.cfg)
    (hsched : t.pfs.sched = s.pfs.sched) (hslot : t.pfs.slot = s.pfs.slot)
    (hcapacity : t.pfs.capacity = s.pfs.capacity) (hheater : ∀ h, t.heater h = s.heater h) :
    FrameSound t where
  load hr := (hs.load (hsched ▸ hr)).congr hcfg hcapacity fun g => by rw [hheater]
  fits h := by
    unfold State.install
    rw [hsched, hslot, hcfg, hheater]
    exact hs.fits h
  ranks h := by unfold State.install; rw [hcfg]; exact hs.ranks h

theorem FrameSound.of_same {s t : State} (hs : FrameSound s) (hcfg : t.cfg = s.cfg) (hp : t.pfs = s.pfs) :
    FrameSound t :=
  hs.congr hcfg (by rw [hp]) (by rw [hp]) (by rw [hp]) fun h => by unfold State.heater; rw [hp]

section State

variable {s : State} (hs : PowerInv s)
include hs

theorem frame_sound : FrameSound s := ((powerInv_iff s).1 hs).1

theorem plant_sound : PlantSound s := ((powerInv_iff s).1 hs).2

/-- OUT changes in its timers and drives alone. -/
theorem out_power {t : State} (hcfg : t.cfg = s.cfg) (hp : t.pfs = s.pfs)
    (hcontactor : t.out.contactor = s.out.contactor) (hsupply : t.out.supplyOff = s.out.supplyOff)
    (hfailed : ∀ h, (t.heaterOut h).failed = (s.heaterOut h).failed) : PowerInv t := by
  have hkept : PlantKept s t :=
    { cfg := hcfg
      sched := by rw [hp]; exact id
      contactor := hcontactor
      supplyOff := hsupply
      failed := hfailed
      hold := fun h => by unfold State.heater; rw [hp]; exact id }
  exact (powerInv_iff t).2 ⟨(frame_sound hs).of_same hcfg hp, hkept.sound (plant_sound hs)⟩

/-- What leaves the configuration, the scheduler and OUT alone keeps the invariant. -/
theorem same_power {t : State} (hcfg : t.cfg = s.cfg) (hp : t.pfs = s.pfs) (ho : t.out = s.out) :
    PowerInv t :=
  out_power hs hcfg hp (by rw [ho]) (by rw [ho]) fun h => by unfold State.heaterOut; rw [ho]

theorem withOvr_power (x : Ovr) : PowerInv (s.withOvr x) := same_power hs rfl rfl rfl
theorem withLnk_power (x : Lnk) : PowerInv (s.withLnk x) := same_power hs rfl rfl rfl
theorem withPst_power (x : Pst) : PowerInv (s.withPst x) := same_power hs rfl rfl rfl
theorem withBsv_power (x : Bsv) : PowerInv (s.withBsv x) := same_power hs rfl rfl rfl
theorem withPins_power (x : Pins) : PowerInv (s.withPins x) := same_power hs rfl rfl rfl
theorem setChan_power (c : Channel) (r : ChannelRec) : PowerInv (s.setChan c r) := same_power hs rfl rfl rfl
theorem raise_power (n : Notice) : PowerInv (raise n s) := same_power hs (by simp) (by simp) (by simp)

theorem setHeaterOut_power (h : Heater) {r : HeaterOut} (hr : r.failed = (s.heaterOut h).failed) :
    PowerInv (s.setHeaterOut h r) :=
  out_power hs rfl rfl rfl rfl fun g => by
    rw [State.setHeaterOut_heaterOut]
    split
    next hg => rw [hg, hr]
    next => rfl

theorem foldl_power {α : Type} {f : State → α → State} (hf : ∀ t a, PowerInv t → PowerInv (f t a))
    (l : List α) : PowerInv (l.foldl f s) :=
  List.foldlRecOn l f hs fun t ht a _ => hf t a ht

/-! ## The end of an event -/

theorem handDemand_power (o : OvenHeater) (d : Nat) : PowerInv (handDemand o d s) := by
  unfold handDemand
  split
  · exact hs
  · exact demandChange_power (withOvr_power hs _) _ d

theorem syncOven_power : PowerInv (syncOven s) := by
  have htaken : PowerInv (ovenTaken s) := by
    unfold ovenTaken
    split
    · exact withOvr_power hs _
    · exact hs
  rw [syncOven_eq]
  exact withOvr_power (foldl_power htaken (fun t o ht => handDemand_power ht o _) _) _

theorem syncLevel_power (c : Channel) (h : Heater) : PowerInv (syncLevel c h s) := by
  unfold syncLevel
  dsimp only
  split
  · exact hs
  · exact demandChange_power (setChan_power hs c _) h _

/-- What an event hands on keeps the invariant (R49). -/
theorem sync_power (c : Channel) : PowerInv (sync c s) := by
  obtain ⟨n, hn, -⟩ | rfl | ⟨h, hh, -⟩ := channel_kinds c
  · rw [sync_of_burner hn]
    exact same_power hs (by simp) (by simp) (by simp)
  · exact syncOven_power hs
  · rw [sync_of_hob hh]
    exact syncLevel_power hs c h

/-! ## The operations on channels -/

theorem endCurrent_power (c : Channel) (cause : EndCause) : PowerInv (endCurrent c cause s) :=
  same_power hs (by simp) (by simp) (by simp)

theorem targetCheck_power : PowerInv (targetCheck s) := by
  have hfound : PowerInv (findTarget s) := same_power hs (by simp) (by simp) (by simp)
  unfold targetCheck
  dsimp only
  split
  · split
    · exact hs
    · split
      · exact sync_power (endCurrent_power hfound _ _) _
      · exact hfound
  · exact hs

theorem pauseChannel_power (c : Channel) : PowerInv (pauseChannel c s) :=
  sync_power (setChan_power hs c _) c

theorem resumeChannel_power (c : Channel) : PowerInv (resumeChannel c s) := by
  unfold resumeChannel
  refine sync_power ?_ c
  split
  · exact targetCheck_power (setChan_power hs c _)
  · exact setChan_power hs c _

theorem runFromStart_power (c : Channel) : PowerInv (runFromStart c s) :=
  sync_power (same_power hs (by simp) (by simp) (by simp)) c

theorem reportFault_power (c : Channel) (cause : HaltCause) : PowerInv (reportFault c cause s) := by
  unfold reportFault
  split
  · exact sync_power (same_power hs (by simp) (by simp) (by simp)) c
  · exact hs

theorem expirePause_power (c : Channel) : PowerInv (expirePause c s) :=
  sync_power (same_power hs (by simp) (by simp) (by simp)) c

theorem advanceSegment_power (c : Channel) (left : Nat) : PowerInv (advanceSegment c left s) := by
  unfold advanceSegment
  dsimp only
  split
  · split
    · split
      · exact sync_power (setChan_power hs c _) c
      · exact hs
    all_goals exact hs
  · exact hs

theorem channelTick_power (c : Channel) : PowerInv (channelTick c s) := by
  unfold channelTick
  split
  · exact hs
  · dsimp only
    split
    · exact sync_power (endCurrent_power (setChan_power hs c _) c _) c
    · exact advanceSegment_power (setChan_power hs c _) c _

theorem linkPause_power (c : Channel) : PowerInv (linkPause c s) := by
  unfold linkPause
  split
  · exact pauseChannel_power hs c
  · exact hs

theorem emptyRecord_power (c : Channel) : PowerInv (emptyRecord c s) :=
  same_power hs (by simp) (by simp) (by simp)

theorem emptyChannel_power (c : Channel) : PowerInv (emptyChannel c s) :=
  sync_power (emptyRecord_power hs c) c

theorem closeLoad_power : PowerInv (closeLoad s) := same_power hs (by simp) (by simp) (by simp)

theorem stopEverything_power : PowerInv (stopEverything s) :=
  have hemptied := closeLoad_power (foldl_power hs (fun _ c ht => emptyRecord_power ht c) allChannels)
  have hburners {t : State} (ht : PowerInv t) : PowerInv (stopBurners t) :=
    same_power ht (by simp) (by simp) (by simp)
  hburners (foldl_power hemptied (fun _ c ht => sync_power ht c) allChannels)

theorem setLevel_power (c : Channel) (n : Nat) : PowerInv (setLevel c n s) :=
  sync_power (same_power hs (by simp) (by simp) (by simp)) c

theorem overshootCut_power : PowerInv (overshootCut s) := by
  unfold overshootCut
  split
  · exact hs
  · split
    · exact foldl_power hs (fun t o ht => handDemand_power ht o 0) _
    · exact hs

theorem setSetpoint_power (mode : Mode) (t : Nat) : PowerInv (setSetpoint mode t s) := by
  unfold setSetpoint
  refine targetCheck_power (overshootCut_power ?_)
  dsimp only
  split
  · exact same_power hs (by simp) (by simp) (by simp)
  · exact same_power hs (by simp) (by simp) (by simp)

end State

end Sys2Proof.Proofs
end

section
/-! The invariant of the power frame: the findings, the probe, the clock and the resets. -/

namespace Sys2Proof.Proofs

open Sys2Proof Sys2Proof.Machine Sys2Proof.Claims Sys2Proof.Safety

/-! ## The hold of every installed heater (R68, R135) -/

theorem holdSupply_sound {s : State} (hs : FrameSound s) : FrameSound (holdSupply s) :=
  List.foldlRecOn _ _ hs fun _ ht h _ => holdHeater_sound ht h .supplyOff

/-- A held heater stays held where the supply is cut off. -/
theorem weldOpened_hold_of_held {h g : Heater} {further : List Heater} {s : State} (inv : PowerInv s)
    (hg : (s.heater g).hold ≠ .none) : ((weldOpened h further s).heater g).hold ≠ .none := by
  by_cases hi : (s.install g).installed = true
  · exact weldOpened_hold inv hi
  · rwa [weldOpened_heater, if_neg hi]

/-! ## Settling (R130) -/

theorem settleAll_contactor (s : State) : (settleAll s).out.contactor = s.out.contactor := by
  rw [settleAll_out]

theorem settleAll_supplyOff (s : State) : (settleAll s).out.supplyOff = s.out.supplyOff := by
  rw [settleAll_out]

theorem settleAll_failed (h : Heater) (s : State) :
    ((settleAll s).heaterOut h).failed = (s.heaterOut h).failed := by
  rw [settleAll_heaterOut]
  split <;> rfl

section Events

variable {s : State} (hs : PowerInv s)
include hs

theorem settleAll_power : PowerInv (settleAll s) :=
  out_power hs (by simp) (by simp) (settleAll_contactor s) (settleAll_supplyOff s) fun h =>
    settleAll_failed h s

/-- The weld cuts the supply off only where the contactor was closed, so the part is OPERATING (R135). -/
theorem weldOpened_power (h : Heater) {further : List Heater} (hf : further.Nodup)
    (hclosed : s.out.contactor = .closed) : PowerInv (weldOpened h further s) := by
  have hplant := plant_sound hs
  obtain ⟨-, -, hcfg, -⟩ := weldOpened_keeps h further s
  obtain ⟨-, -, hcut, -, -, hpfs, -⟩ := supplyCut_keeps h further s
  have hframe : FrameSound (weldOpened h further s) :=
    (holdSupply_sound ((frame_sound hs).of_same hcut hpfs)).of_same (by simp [weldOpened])
      (weldOpened_held h further s).1
  have hoperating : (weldOpened h further s).cfg.part = .operating := by
    rw [hcfg, hplant.contactor hclosed]
  have hout := weldOpened_out h further s
  have hfailed (g : Heater) : ((weldOpened h further s).heaterOut g).failed = (s.heaterOut g).failed := by
    rw [weldOpened_heaterOut hs hf]
    split <;> rfl
  refine (powerInv_iff _).2 ⟨hframe, ?_⟩
  exact
    { operating := fun _ => hoperating
      contactor := fun _ => hoperating
      closed := fun _ hoff => by rw [hout] at hoff; cases hoff
      configuring := fun hpart => by rw [hoperating] at hpart; cases hpart
      failed := fun g hg => weldOpened_hold_of_held hs (hplant.failed g (hfailed g ▸ hg))
      supply := fun _ g hi => weldOpened_hold hs (by rwa [weldOpened_install] at hi) }

/-- The first weld opens the contactor with every installed heater held (R135). -/
theorem findWelded_power (h : Heater) (also : List Heater) (hclosed : s.out.contactor = .closed) :
    PowerInv (findWelded h also s) := by
  have hopened (further : List Heater) (hf : further.Nodup) : PowerInv (weldOpened h further s) :=
    weldOpened_power hs h hf hclosed
  have hchecked {t : State} (ht : PowerInv t) : PowerInv
      (settleAll (t.withOut { t.out with check := true, proving := some 2200 })) :=
    settleAll_power (out_power ht rfl rfl rfl rfl fun _ => rfl)
  exact hchecked (foldl_power (raise_power (hopened _ (nodup_allHeaters.filter _)) _)
    (fun _ c ht => reportFault_power ht c _) _)

theorem formSet_power : PowerInv (formSet s) := same_power hs (by simp) (by simp) (by simp)

/-- The set check that follows the failure of an oven heater (R83, R84). -/
theorem checkSet_power : PowerInv (if s.ovr.context = .bake then
    (if emptyByFailure (formSet s) then reportFault .ov .element (formSet s) else formSet s)
    else s) := by
  split
  · split
    · exact reportFault_power (formSet_power hs) _ _
    · exact formSet_power hs
  · exact hs

/-- A heater is FAILED only once it is held (R133). -/
theorem markFailed_power (h : Heater) {r : HeaterOut} :
    PowerInv ((holdHeater h .failed s).setHeaterOut h r) := by
  have hkept := holdHeater_kept h (cause := .failed) (by decide) s
  have hplant := hkept.sound (plant_sound hs)
  refine (powerInv_iff _).2 ⟨(holdHeater_sound (frame_sound hs) h .failed).of_same rfl rfl, ?_⟩
  exact
    { operating := hplant.operating
      contactor := hplant.contactor
      closed := hplant.closed
      configuring := hplant.configuring
      failed := fun g hf => by
        by_cases hg : g = h
        · rw [hg]; exact holdHeater_holds h (by decide) s
        · rw [State.setHeaterOut_heaterOut, if_neg hg] at hf
          exact hplant.failed g hf
      supply := hplant.supply }

theorem findFailed_power (h : Heater) : PowerInv (findFailed h s) := by
  have hmarked (r : HeaterOut) (n : Notice) :
      PowerInv (raise n ((holdHeater h .failed s).setHeaterOut h r)) := raise_power (markFailed_power hs h) n
  unfold findFailed
  dsimp only
  cases h
  case hz1 | hz2 | hgrill => exact reportFault_power (hmarked _ _) _ _
  all_goals exact checkSet_power (handDemand_power (hmarked _ _) _ _)

/-- In LOCKED no relay is commanded on and the scheduler is STOPPED (R72, R139). -/
theorem enterLocked_power : PowerInv (enterLocked s) := by
  have hfits := (frame_sound hs).fits
  have hplant := plant_sound hs
  have hheater (h : Heater) : (enterLocked s).heater h = { s.heater h with relay := false } :=
    PerHeater.get_map _ _ _
  have houts (h : Heater) : (enterLocked s).heaterOut h = lockHeaterOut (s.heaterOut h) :=
    PerHeater.get_map _ _ _
  have hstopped : (enterLocked s).pfs.sched = .stopped := rfl
  refine (powerInv_iff _).2 ⟨?_, ?_⟩
  · exact
      { load := fun hr => by rw [hstopped] at hr; cases hr
        fits := fun h => by
          rw [hheater, hstopped]
          exact
            { relay := fun hr => by cases hr
              held := (hfits h).held
              unplaced := (hfits h).unplaced
              asked := fun hr => by cases hr }
        ranks := (frame_sound hs).ranks }
  · exact
      { operating := fun hr => absurd hstopped hr
        contactor := fun hc => by cases hc
        closed := fun hr => absurd hstopped hr
        configuring := fun hc => by cases hc
        failed := fun h hf => by
          rw [houts] at hf
          rw [hheater]
          exact hplant.failed h hf
        supply := fun hoff h hi => by
          rw [hheater]
          exact hplant.supply hoff h hi }

theorem runReached_power (h : Heater) (also : List Heater) : PowerInv (runReached h also s) := by
  unfold runReached
  split
  · split
    next => exact enterLocked_power hs
    next hclosed =>
      split
      · exact findFailed_power hs h
      · exact findWelded_power hs h also hclosed
  · exact hs

/-! ## Link loss, the probe and the clock -/

theorem loseLink_power : PowerInv (loseLink s) := by
  unfold loseLink
  exact withLnk_power (raise_power (foldl_power (withLnk_power hs _)
    (fun _ c ht => linkPause_power ht c) _) _) _

theorem validReading_power (t : Nat) : PowerInv (validReading t s) := by
  have hcooled {u : State} (hu : PowerInv u) : PowerInv (evalCoolingFanAtReading u) :=
    same_power hu (by simp) (by simp) (by simp)
  unfold validReading
  refine hcooled (overshootCut_power (targetCheck_power ?_))
  dsimp only
  split
  · exact raise_power (withOvr_power hs _) _
  · exact withOvr_power hs _

theorem invalidReading_power : PowerInv (invalidReading s) := by
  unfold invalidReading
  dsimp only
  split
  · exact reportFault_power (raise_power (withOvr_power hs _) _) _ _
  · exact withOvr_power hs _

theorem reportClosing_power (c : Channel) : PowerInv (reportClosing c s) := by
  unfold reportClosing
  split
  · exact emptyChannel_power hs c
  · exact hs

/-- A millisecond moves timers alone. -/
theorem advance_power : PowerInv (advance s) := by
  have hfailed (h : Heater) : ((advance s).heaterOut h).failed = (s.heaterOut h).failed := by
    cases h <;> rfl
  have hkept : PlantKept s (advance s) :=
    { cfg := rfl
      sched := id
      contactor := rfl
      supplyOff := rfl
      failed := hfailed
      hold := fun _ => id }
  exact (powerInv_iff _).2 ⟨(frame_sound hs).congr rfl rfl rfl rfl fun _ => rfl, hkept.sound (plant_sound hs)⟩

theorem idleStep_power : PowerInv (idleStep s) := by
  unfold idleStep
  split
  · exact advance_power hs
  · exact same_power hs rfl rfl rfl
  · exact same_power hs rfl rfl rfl

end Events

/-- After a reset the scheduler is STOPPED, nothing is placed and nothing held (R72, R175). -/
theorem resetBlocks_power (cause : ResetCause) (s : State) : PowerInv (resetBlocks cause s) := by
  have hstopped : (resetBlocks cause s).pfs.sched = .stopped := rfl
  have hopened : (resetBlocks cause s).out.contactor = .opened := rfl
  have hon : (resetBlocks cause s).out.supplyOff = false := rfl
  have hheater (h : Heater) : (resetBlocks cause s).heater h = HeaterFrame.reset := PerHeater.get_const _ h
  have houts (h : Heater) : ((resetBlocks cause s).heaterOut h).failed = false := by cases h <;> rfl
  refine (powerInv_iff _).2 ⟨?_, ?_⟩
  · exact
      { load := fun hr => by rw [hstopped] at hr; cases hr
        fits := fun h => by rw [hheater]; exact .of_idle rfl rfl rfl
        ranks := fun h => by cases h <;> exact Nat.zero_le _ }
  · exact
      { operating := fun hr => absurd hstopped hr
        contactor := fun hc => by rw [hopened] at hc; cases hc
        closed := fun hr => absurd hstopped hr
        configuring := fun _ => hon
        failed := fun h hf => by rw [houts] at hf; cases hf
        supply := fun hoff => by rw [hon] at hoff; cases hoff }

end Sys2Proof.Proofs
end

section
/-! The invariant of the power frame: the requests. -/

namespace Sys2Proof.Proofs

open Sys2Proof Sys2Proof.Machine Sys2Proof.Claims Sys2Proof.Safety

/-! ## The configuration -/

/-- A configuration request passes the generic checks in CONFIGURING alone (R167). -/
theorem configuring_of_check {kind : Byte} {body : List Byte} {s : State} {k : ReqKind}
    (h : genericCheck kind body s = .ok k) (hk : isConfigKind k = true) : s.cfg.part = .configuring := by
  unfold genericCheck at h
  split at h
  · cases h
  · split_ifs at h with _ hlocked hoperating
    cases h
    cases hpart : s.cfg.part
    case configuring => rfl
    case operating => exact absurd ⟨hpart, hk⟩ hoperating
    case locked => exact absurd ⟨hpart, by rintro rfl; cases hk⟩ hlocked

/-- While STOPPED no heater is commanded on, so the configuration is free, and so it is at the start. -/
theorem FrameSound.configured {s t : State} (hs : FrameSound s) (hstop : s.pfs.sched = .stopped)
    (hsched : t.pfs.sched ≠ .running) (hheater : ∀ h, t.heater h = s.heater h)
    (hranks : ∀ h, (t.install h).rank ≤ 6) : FrameSound t where
  load hr := absurd hr hsched
  fits h := by
    have hfits := hs.fits h
    rw [hheater]
    exact
      { relay := fun hr => by
          obtain ⟨hrun, -⟩ := hfits.relay hr
          rw [hstop] at hrun; cases hrun
        held := hfits.held
        unplaced := hfits.unplaced
        asked := fun hr => absurd hr hsched }
  ranks := hranks

section Requests

variable {s : State} (hs : PowerInv s)
include hs

theorem stopped_of_configuring (hc : s.cfg.part = .configuring) : s.pfs.sched = .stopped := by
  by_contra hsched
  have hoperating := (plant_sound hs).operating hsched
  rw [hc] at hoperating; cases hoperating

/-- In CONFIGURING every record of the configuration can be written (R176, R177). -/
theorem configured_power (hc : s.cfg.part = .configuring) {x : Cfg}
    (hranks : ∀ h, (x.heaters.get h).rank ≤ 6) : PowerInv (s.withCfg x) := by
  have hstop := stopped_of_configuring hs hc
  have hplant := plant_sound hs
  have hon := hplant.configuring hc
  refine (powerInv_iff _).2 ⟨(frame_sound hs).configured hstop ?_ (fun _ => rfl) hranks, ?_⟩
  · exact fun hr => by cases hstop.symm.trans hr
  · exact
      { operating := fun hr => absurd hstop hr
        contactor := fun hclosed => by cases hc.symm.trans (hplant.contactor hclosed)
        closed := fun hr => absurd hstop hr
        configuring := fun _ => hon
        failed := hplant.failed
        supply := fun hoff => by cases hon.symm.trans hoff }

/-- The operation begins with the contactor closed and no command on (R52, R179). -/
theorem started_power (hc : s.cfg.part = .configuring) {t : State} (hpart : t.cfg.part = .operating)
    (hheaters : t.cfg.heaters = s.cfg.heaters) (hsched : t.pfs.sched = .starting)
    (hheater : ∀ h, t.heater h = s.heater h) (hcontactor : t.out.contactor = .closed)
    (hsupply : t.out.supplyOff = s.out.supplyOff)
    (hfailed : ∀ h, (t.heaterOut h).failed = (s.heaterOut h).failed) : PowerInv t := by
  have hplant := plant_sound hs
  have hon := hplant.configuring hc
  have hranks (h : Heater) : (t.install h).rank ≤ 6 := by
    unfold State.install; rw [hheaters]; exact (frame_sound hs).ranks h
  refine (powerInv_iff _).2
    ⟨(frame_sound hs).configured (stopped_of_configuring hs hc) ?_ hheater hranks, ?_⟩
  · rw [hsched]; decide
  · exact
      { operating := fun _ => hpart
        contactor := fun _ => hpart
        closed := fun _ _ => hcontactor
        configuring := fun hpart' => by cases hpart.symm.trans hpart'
        failed := fun h hf => by rw [hheater]; exact hplant.failed h (hfailed h ▸ hf)
        supply := fun hoff => by rw [hsupply, hon] at hoff; cases hoff }

theorem closeConfig_power (hc : s.cfg.part = .configuring) : PowerInv (ownCloseConfig s).state := by
  unfold ownCloseConfig
  split
  · exact hs
  · exact started_power hs hc (by simp [accepted]) (by simp [accepted]) rfl
      (by simp [accepted, State.heater]) (settleAll_contactor _) (settleAll_supplyOff _)
      fun h => settleAll_failed h _

/-- An installed heater has a rank of 1 to 6, another the rank 0 (R177). -/
theorem setHeater_power (hc : s.cfg.part = .configuring) (code installed rating rank offset : Nat) :
    PowerInv (ownSetHeater code installed rating rank offset s).state := by
  unfold ownSetHeater
  split
  · exact hs
  next h =>
    split_ifs with _ _ hrank
    case neg =>
      refine configured_power hs hc fun g => ?_
      rw [PerHeater.get_set]
      split
      · unfold heaterRecord
        split
        next hi => dsimp only; omega
        next => exact Nat.zero_le 6
      · exact (frame_sound hs).ranks g
    all_goals exact hs

theorem setBudget_power (hc : s.cfg.part = .configuring) (budget : Nat) :
    PowerInv (ownSetBudget budget s).state := by
  unfold ownSetBudget
  split
  · exact hs
  · exact configured_power hs hc (frame_sound hs).ranks

theorem setOvenTuning_power (hc : s.cfg.part = .configuring) (band overshoot : Nat) :
    PowerInv (ownSetOvenTuning band overshoot s).state := by
  unfold ownSetOvenTuning
  split_ifs
  · exact hs
  · exact hs
  · exact configured_power hs hc (frame_sound hs).ranks

theorem setLink_power (hc : s.cfg.part = .configuring) (supervision spacing : Nat) :
    PowerInv (ownSetLink supervision spacing s).state := by
  unfold ownSetLink
  split_ifs
  · exact hs
  · exact hs
  · exact configured_power hs hc (frame_sound hs).ranks

/-! ## The plans -/

/-- A request on one channel keeps the invariant when it does so on each channel it can name. -/
theorem onChannel_power {f : Channel → State → Answered} (hf : ∀ c, PowerInv (f c s).state)
    (code detail : Nat) : PowerInv (onChannel code detail f s).state := by
  unfold onChannel
  split
  · exact hs
  · exact hf _

theorem planBegin_power (code count : Nat) : PowerInv (ownPlanBegin code count s).state := by
  refine onChannel_power hs (fun c => ?_) _ _
  split
  · exact hs
  · exact same_power hs rfl rfl rfl

theorem planStage_power (index : Nat) (record : List Byte) :
    PowerInv (ownPlanStage index record s).state := by
  unfold ownPlanStage
  split
  · exact hs
  · dsimp only
    split_ifs
    · exact hs
    · exact hs
    · split
      · exact hs
      · exact same_power hs rfl rfl rfl

theorem planCommit_power : PowerInv (ownPlanCommit s).state := by
  unfold ownPlanCommit
  split
  · exact hs
  · split
    · exact closeLoad_power hs
    · exact sync_power (setChan_power (withPst_power hs _) _ _) _

theorem quickPlan_power (c : Channel) (n : Nat) : PowerInv (quickPlan c n s) :=
  runFromStart_power (setChan_power (withPst_power hs _) c _) c

theorem quickStop_power (c : Channel) : PowerInv (quickStop c s).state := by
  have hemptied := emptyChannel_power hs c
  unfold quickStop
  dsimp only
  split <;> assumption

theorem quickSet_power (c : Channel) (n : Nat) : PowerInv (quickSet c n s).state := by
  have hset := setLevel_power hs c n
  have hplan := quickPlan_power hs c n
  unfold quickSet
  dsimp only
  split
  case h_4 => split <;> assumption
  case h_5 | h_6 => exact hs
  all_goals
    split
    · exact hs
    · split <;> assumption

theorem quickLevel_power (code level : Nat) : PowerInv (ownQuickLevel code level s).state := by
  refine onChannel_power hs (fun c => ?_) _ _
  split_ifs
  · exact hs
  · exact hs
  · exact quickStop_power hs c
  · exact quickSet_power hs c level

/-! ## The adjustments and the movers -/

theorem adjustCurrent_power (code u : Nat) (v : Int) (c : Channel) :
    PowerInv (adjustCurrent code u v c s).state := by
  have htime (p : PoolRecord) : PowerInv (adjustTime c v p s).state := by
    unfold adjustTime
    split
    · exact hs
    · exact same_power hs rfl rfl rfl
  have hlevel (p : PoolRecord) : PowerInv (adjustLevel c u p s).state := by
    unfold adjustLevel
    split
    · exact setLevel_power hs c u
    all_goals exact hs
  have hsetpoint (p : PoolRecord) : PowerInv (adjustSetpoint c u p s).state := by
    unfold adjustSetpoint
    split
    · split
      · exact setSetpoint_power hs _ _
      · exact hs
    all_goals exact hs
  have hact (p : PoolRecord) : PowerInv (match code with
      | 0 => adjustTime c v p s
      | 1 => adjustLevel c u p s
      | _ => adjustSetpoint c u p s).state := by
    split
    · exact htime p
    · exact hlevel p
    · exact hsetpoint p
  unfold adjustCurrent
  split
  next p _ _ => exact hact p
  next p _ _ => exact hact p
  next => exact hs

theorem adjust_power (channel code u : Nat) (v : Int) : PowerInv (ownAdjust channel code u v s).state := by
  refine onChannel_power hs (fun c => ?_) _ _
  split
  · exact hs
  · exact adjustCurrent_power hs _ _ _ c

theorem stopAll_power : PowerInv (ownStopAll s).state := by
  simpa only [ownStopAll, accepted] using stopEverything_power hs

theorem actStart_power (c : Channel) : PowerInv (actStart c s).state := by
  unfold actStart
  split
  · exact hs
  · split
    · exact hs
    · exact runFromStart_power hs c

theorem actPause_power (c : Channel) : PowerInv (actPause c s).state := by
  unfold actPause
  split
  · exact hs
  · exact pauseChannel_power hs c

theorem actResume_power (c : Channel) : PowerInv (actResume c s).state := by
  unfold actResume
  split
  · exact hs
  · exact resumeChannel_power hs c

theorem actSkip_power (c : Channel) : PowerInv (actSkip c s).state := by
  unfold actSkip
  split
  · exact hs
  · exact sync_power (endCurrent_power hs c .cut) c

theorem actStop_power (c : Channel) : PowerInv (actStop c s).state := by
  have hemptied := emptyChannel_power hs c
  unfold actStop
  split <;> assumption

theorem actClear_power (c : Channel) : PowerInv (actClear c s).state := by
  have hemptied := emptyChannel_power hs c
  unfold actClear
  split <;> assumption

/-! ## The reads and the notices -/

theorem readStage_power (code index : Nat) : PowerInv (ownReadStage code index s).state := by
  refine onChannel_power hs (fun c => ?_) _ _
  split
  · exact hs
  · exact same_power hs rfl rfl rfl

theorem readStageNext_power : PowerInv (ownReadStageNext s).state := by
  unfold ownReadStageNext
  split
  · exact hs
  · split
    · exact hs
    · exact same_power hs rfl rfl rfl

theorem fetchNotices_power (maximum rearm : Nat) : PowerInv (ownFetchNotices maximum rearm s).state := by
  unfold ownFetchNotices
  dsimp only
  split_ifs
  · exact hs
  · exact hs
  · exact same_power hs (by simp [accepted]) (by simp [accepted]) (by simp [accepted])
  · exact same_power hs rfl rfl rfl

theorem armAttention_power : PowerInv (ownArmAttention s).state :=
  same_power hs (by simp [ownArmAttention, accepted]) (by simp [ownArmAttention, accepted])
    (by simp [ownArmAttention, accepted])

/-- Every request keeps the invariant, a configuration request in CONFIGURING; the kinds at the end leave
the state as it was. -/
theorem ownerActs_power (k : ReqKind) (body : List Byte)
    (hk : isConfigKind k = true → s.cfg.part = .configuring) : PowerInv (ownerActs k body s).state := by
  cases k
  case setBudget => exact setBudget_power hs (hk rfl) _
  case setHeater => exact setHeater_power hs (hk rfl) _ _ _ _ _
  case setOvenTuning => exact setOvenTuning_power hs (hk rfl) _ _
  case setLink => exact setLink_power hs (hk rfl) _ _
  case closeConfig => exact closeConfig_power hs (hk rfl)
  case planBegin => exact planBegin_power hs _ _
  case planStage => exact planStage_power hs _ _
  case planCommit => exact planCommit_power hs
  case quickLevel => exact quickLevel_power hs _ _
  case stopAll => exact stopAll_power hs
  case start => exact onChannel_power hs (actStart_power hs) _ _
  case pause => exact onChannel_power hs (actPause_power hs) _ _
  case resume => exact onChannel_power hs (actResume_power hs) _ _
  case skip => exact onChannel_power hs (actSkip_power hs) _ _
  case stop => exact onChannel_power hs (actStop_power hs) _ _
  case clear => exact onChannel_power hs (actClear_power hs) _ _
  case adjust => exact adjust_power hs _ _ _ _
  case readStage =>
    cases body
    · exact readStageNext_power hs
    · exact readStage_power hs _ _
  case readChannel => exact onChannel_power hs (fun _ => hs) _ _
  case fetchNotices => exact fetchNotices_power hs _ _
  case armAttention => exact armAttention_power hs
  case status | readConfig => exact hs
  case restart | readFrame =>
    simp only [ownerActs, ownRestart, ownReadFrame]
    repeat' split
    all_goals exact hs

theorem decideRequest_power (r : Request) : PowerInv (decideRequest r s).state := by
  unfold decideRequest
  split
  next => exact hs
  next k hcheck => exact ownerActs_power hs k _ (configuring_of_check hcheck)

end Requests

end Sys2Proof.Proofs
end

section
/-! The invariant of the power frame: the link and the commands. -/

namespace Sys2Proof.Proofs

open Sys2Proof Sys2Proof.Machine Sys2Proof.Claims Sys2Proof.Safety

/-! ## The link -/

section Link

variable {s : State} (hs : PowerInv s)
include hs

/-- RESTARTED is a flag of the configuration that the power frame does not read (R166). -/
theorem withRestarted_power (b : Bool) : PowerInv (s.withCfg { s.cfg with restarted := b }) where
  load := hs.load
  relay := hs.relay
  operating := hs.operating
  contactor := hs.contactor
  closed := hs.closed
  configuring := hs.configuring
  failed := hs.failed
  supply := hs.supply
  held := hs.held
  unplaced := hs.unplaced
  asked := hs.asked
  ranks := hs.ranks

theorem clearReported_power (kind : Byte) : PowerInv (clearReported kind s) := by
  unfold clearReported
  dsimp only
  split
  · exact withRestarted_power (withLnk_power (withLnk_power hs _) _) false
  · exact withLnk_power hs _

omit hs in
theorem answerRequest_power (r : Request) {a : Answered} (ha : PowerInv a.state) :
    PowerInv (answerRequest r a) :=
  same_power (clearReported_power ha r.kind) rfl rfl rfl

theorem takeRequest_power (r : Request) : PowerInv (takeRequest r s) := by
  have hdecided := decideRequest_power hs r
  unfold takeRequest
  split
  · exact answerRequest_power r hdecided
  · exact hdecided

theorem placeRequest_power (r : Request) : PowerInv (placeRequest r s) := by
  unfold placeRequest
  split
  · exact takeRequest_power hs r
  all_goals exact withLnk_power hs _

theorem acceptFrame_power (r : Request) : PowerInv (acceptFrame r s) := by
  have hheard : PowerInv (restartSupervision s) := by
    unfold restartSupervision
    split
    · exact withLnk_power hs _
    · exact hs
  unfold acceptFrame
  dsimp only
  split
  · exact placeRequest_power hheard r
  · split
    · exact placeRequest_power hheard r
    · exact hheard

theorem abandonFrame_power : PowerInv (abandonFrame s) := by
  unfold abandonFrame
  split
  · exact withLnk_power hs _
  all_goals exact hs

theorem arriveRequest_power (a : FrameAddr) (kind tag : Byte) (body : List Byte) :
    PowerInv (arriveRequest a kind tag body s) := by
  unfold arriveRequest
  dsimp only
  split
  · exact withLnk_power (abandonFrame_power hs) _
  · exact acceptFrame_power (withLnk_power (abandonFrame_power hs) _) _

theorem addressChar_power (a : Byte) : PowerInv (addressChar a s) := by
  unfold addressChar
  dsimp only
  split_ifs
  all_goals exact withLnk_power (abandonFrame_power hs) _

theorem dataChar_power (d : Byte) : PowerInv (dataChar d s) := by
  unfold dataChar completeFrame
  dsimp only
  split
  · exact hs
  · exact hs
  · split_ifs
    · exact withLnk_power hs _
    · exact acceptFrame_power (withLnk_power hs _) _
    · exact withLnk_power (withLnk_power hs _) _
    · exact withLnk_power hs _

theorem startReply_power : PowerInv (startReply s) := by
  unfold startReply
  split
  · exact same_power hs rfl rfl rfl
  · exact hs

theorem endReply_power : PowerInv (endReply s) := by
  unfold endReply
  split
  · split
    · exact resetBlocks_power .requested s
    · unfold takeWaiting
      split
      · exact withLnk_power hs _
      · exact takeRequest_power (withLnk_power (withLnk_power hs _) _) _
  all_goals exact hs

end Link

/-! ## The commands -/

section Commands

variable {s : State} (hs : PowerInv s)
include hs

theorem frameBoundary_power {t : State} (h : exec .frameBoundary s = .next t) : PowerInv t := by
  by_cases hsched : s.pfs.sched = .stopped
  · cases (exec_frameBoundary_stopped hsched).symm.trans h
    exact hs
  · cases (exec_frameBoundary hsched).symm.trans h
    exact frameEvent_power hs hsched

theorem slotBoundary_power :
    PowerInv (if s.pfs.sched = .running ∧ s.pfs.slot ≠ 31 then slotEvent s else s) := by
  split
  next hrun => exact slotEvent_power hs hrun.1
  next => exact hs

/-- Every command keeps the invariant. -/
theorem exec_power {t : State} (i : Instr) (h : exec i s = .next t) : PowerInv t := by
  have hrequest {r : Request} (hr : requestFrame i = some r) : PowerInv t := by
    rw [exec_eq_arrive s hr] at h
    cases h
    exact arriveRequest_power hs _ _ _ _
  cases i
  case powerOnReset => cases h; exact resetBlocks_power .powerOn _
  case addressCharacter a => cases h; exact addressChar_power hs a
  case dataCharacter d => cases h; exact dataChar_power hs d
  case framingError => cases h; exact abandonFrame_power hs
  case gapTimeout =>
    cases h; split
    · exact abandonFrame_power hs
    · exact hs
  case replyStart => cases h; exact startReply_power hs
  case replySent => cases h; exact endReply_power hs
  case linkSupervisionExpiry =>
    cases h; split
    · exact loseLink_power hs
    · exact hs
  case loadIdleTimeout =>
    cases h; split
    · exact closeLoad_power hs
    · exact hs
  case channelSecond c =>
    cases h; split
    · exact channelTick_power (setChan_power hs c _) c
    · exact hs
  case stageElapsed c =>
    cases h; split
    · exact sync_power (endCurrent_power (setChan_power (setChan_power hs c _) c _) c _) c
    · exact hs
  case pauseTimerSecond c =>
    cases h; split
    · exact hs
    · split
      · exact expirePause_power hs c
      · exact setChan_power hs c _
  case pauseExpiry c =>
    cases h; split
    · exact expirePause_power hs c
    · exact hs
  case slotBoundary => cases h; exact slotBoundary_power hs
  case frameBoundary => exact frameBoundary_power hs h
  case probeReading reading =>
    cases h
    dsimp only
    split
    · split
      · exact validReading_power (withOvr_power (withPins_power hs _) _) _
      · exact invalidReading_power (withOvr_power (withPins_power hs _) _)
    · exact withPins_power hs _
  case doorOpened =>
    cases h; split
    · exact hs
    · exact withOvr_power (handDemand_power (withOvr_power (withPins_power hs _) _) .ring 0) _
  case knobClosed n =>
    cases h; split
    · exact hs
    · exact reportClosing_power (same_power hs (by simp) (by simp) (by simp)) _
  case loadSenseChange g present =>
    cases h; dsimp only; split
    · exact withPins_power hs _
    · exact setHeaterOut_power (withPins_power hs _) g rfl
  case settlingEnd g =>
    cases h; split
    · exact setHeaterOut_power hs g rfl
    all_goals exact hs
  case persistenceRunExpiry g also => cases h; exact runReached_power hs g also
  case contactorProvingExpiry => cases h; exact out_power hs rfl rfl rfl rfl fun _ => rfl
  case holdTailEnd =>
    cases h; split
    · exact foldl_power (withBsv_power hs _)
        (fun _ n ht => same_power ht (by simp) (by simp) (by simp)) _
    all_goals exact hs
  case doorInputChange | knobInputChange | flameSenseChange =>
    cases h
    dsimp only
    repeat' split
    all_goals exact same_power hs (by simp) (by simp) (by simp)
  case doorClosed | knobOpened | restTimerExpiry | flameProven | attemptFailed | retryGapExpiry | flameLost
    | spacingTimerExpiry =>
    cases h
    repeat' split
    all_goals exact same_power hs (by simp) (by simp) (by simp)
  all_goals exact hrequest rfl

end Commands

/-- Settles O56: a command keeps the power frame's invariant, and so does the part's own clock. -/
theorem powerStaysWithinTheBudget : Obligations.PowerStaysWithinTheBudget := by
  intro s t hs hstep
  unfold step at hstep
  split at hstep
  next c rest _ => exact exec_power (same_power (t := s.withPending rest) hs rfl rfl rfl) c hstep
  next => cases hstep; exact idleStep_power hs

end Sys2Proof.Proofs
end

section
/-! SUPPORT. What a request's owner can leave of the state, said once for every kind (Table 8-8): what each
request keeps follows from what these few operations keep. -/

namespace Sys2Proof.Proofs

open Sys2Proof Sys2Proof.Machine

/-- The states in which a request's owner can leave s. -/
inductive OwnerLeaves (s : State) : State → Prop where
  /-- a read, a refusal, or an accepted RESTART, whose reset is still to come -/
  | same : OwnerLeaves s s
  | configured (x : Cfg) (hpart : x.part = s.cfg.part) : OwnerLeaves s (s.withCfg x)
  | configClosed (h : closeProblem s = none) : OwnerLeaves s (ownCloseConfig s).state
  | loading (x : Option LoadContext) : OwnerLeaves s (s.withPst { s.pst with load := x })
  | committed (c : Channel) (x : Pst) (plan : List PoolRecord) :
    OwnerLeaves s (sync c ((s.withPst x).setChan c (readyRecord plan (s.chan c).level)))
  | started (c : Channel) : OwnerLeaves s (runFromStart c s)
  | paused (c : Channel) : OwnerLeaves s (pauseChannel c s)
  | resumed (c : Channel) : OwnerLeaves s (resumeChannel c s)
  | skipped (c : Channel) : OwnerLeaves s (sync c (endCurrent c .cut s))
  | emptied (c : Channel) : OwnerLeaves s (emptyChannel c s)
  | timeAdded (c : Channel) (n : Nat) (e : Int) : OwnerLeaves s (addTime c n e s)
  | levelSet (c : Channel) (n : Nat) : OwnerLeaves s (setLevel c n s)
  | setpointSet (m : Mode) (t : Nat) : OwnerLeaves s (setSetpoint m t s)
  | quickRun (c : Channel) (n : Nat) : OwnerLeaves s (quickPlan c n s)
  | allStopped : OwnerLeaves s (stopEverything s)
  | cursorSet (x : Option (Channel × Nat)) : OwnerLeaves s (s.withPlr { s.plr with cursor := x })
  | noticesTaken (n : Nat) : OwnerLeaves s (takeNotices n s)
  | noticesTakenArmed (n : Nat) : OwnerLeaves s (armLine (takeNotices n s))
  | armed : OwnerLeaves s (armLine s)

/-! ## The configuration -/

theorem setBudget_leaves (budget : Nat) (s : State) : OwnerLeaves s (ownSetBudget budget s).state := by
  unfold ownSetBudget
  split
  · exact .same
  · exact .configured _ rfl

theorem setHeater_leaves (code installed rating rank offset : Nat) (s : State) :
    OwnerLeaves s (ownSetHeater code installed rating rank offset s).state := by
  unfold ownSetHeater
  split
  · exact .same
  · split_ifs
    · exact .same
    · exact .same
    · exact .same
    · exact .same
    · exact .configured _ rfl

theorem setOvenTuning_leaves (band overshoot : Nat) (s : State) :
    OwnerLeaves s (ownSetOvenTuning band overshoot s).state := by
  unfold ownSetOvenTuning
  split_ifs
  · exact .same
  · exact .same
  · exact .configured _ rfl

theorem setLink_leaves (supervision spacing : Nat) (s : State) :
    OwnerLeaves s (ownSetLink supervision spacing s).state := by
  unfold ownSetLink
  split_ifs
  · exact .same
  · exact .same
  · exact .configured _ rfl

theorem closeConfig_leaves (s : State) : OwnerLeaves s (ownCloseConfig s).state := by
  cases h : closeProblem s with
  | none => exact .configClosed h
  | some detail =>
    have hrefused : (ownCloseConfig s).state = s := by unfold ownCloseConfig; rw [h]; rfl
    rw [hrefused]
    exact .same

theorem restart_leaves (s : State) : OwnerLeaves s (ownRestart s).state := by
  have hkept : (ownRestart s).state = s := by unfold ownRestart; split_ifs <;> rfl
  rw [hkept]
  exact .same

/-! ## The plans -/

/-- A request on one channel leaves what it leaves on the channels it can name. -/
theorem onChannel_leaves {f : Channel → State → Answered} {s : State}
    (hf : ∀ c, OwnerLeaves s (f c s).state) (code detail : Nat) :
    OwnerLeaves s (onChannel code detail f s).state := by
  unfold onChannel
  split
  · exact .same
  · exact hf _

theorem planBegin_leaves (code count : Nat) (s : State) :
    OwnerLeaves s (ownPlanBegin code count s).state := by
  refine onChannel_leaves (fun c => ?_) _ _
  split
  · exact .same
  · exact .loading _

theorem planStage_leaves (index : Nat) (record : List Byte) (s : State) :
    OwnerLeaves s (ownPlanStage index record s).state := by
  unfold ownPlanStage
  split
  · exact .same
  · dsimp only
    split_ifs
    · exact .same
    · exact .same
    · split
      · exact .same
      · exact .loading _

theorem planCommit_leaves (s : State) : OwnerLeaves s (ownPlanCommit s).state := by
  unfold ownPlanCommit
  split
  · exact .same
  · split
    · exact .loading none
    · exact .committed _ _ _

/-! ## The channels -/

theorem actStart_leaves (s : State) (c : Channel) : OwnerLeaves s (actStart c s).state := by
  unfold actStart
  split
  · exact .same
  · split
    · exact .same
    · exact .started c

theorem actPause_leaves (s : State) (c : Channel) : OwnerLeaves s (actPause c s).state := by
  unfold actPause
  split
  · exact .same
  · exact .paused c

theorem actResume_leaves (s : State) (c : Channel) : OwnerLeaves s (actResume c s).state := by
  unfold actResume
  split
  · exact .same
  · exact .resumed c

theorem actSkip_leaves (s : State) (c : Channel) : OwnerLeaves s (actSkip c s).state := by
  unfold actSkip
  split
  · exact .same
  · exact .skipped c

theorem actStop_leaves (s : State) (c : Channel) : OwnerLeaves s (actStop c s).state := by
  have hemptied : OwnerLeaves s (emptyChannel c s) := .emptied c
  have hsame : OwnerLeaves s s := .same
  unfold actStop
  split <;> assumption

theorem actClear_leaves (s : State) (c : Channel) : OwnerLeaves s (actClear c s).state := by
  have hemptied : OwnerLeaves s (emptyChannel c s) := .emptied c
  have hsame : OwnerLeaves s s := .same
  unfold actClear
  split <;> assumption

theorem adjustTime_leaves (c : Channel) (d : Int) (p : PoolRecord) (s : State) :
    OwnerLeaves s (adjustTime c d p s).state := by
  unfold adjustTime
  split
  · exact .same
  · exact .timeAdded c _ _

theorem adjustLevel_leaves (c : Channel) (n : Nat) (p : PoolRecord) (s : State) :
    OwnerLeaves s (adjustLevel c n p s).state := by
  unfold adjustLevel
  split
  · exact .levelSet c n
  all_goals exact .same

theorem adjustSetpoint_leaves (c : Channel) (t : Nat) (p : PoolRecord) (s : State) :
    OwnerLeaves s (adjustSetpoint c t p s).state := by
  unfold adjustSetpoint
  split
  · split
    · exact .setpointSet _ t
    · exact .same
  all_goals exact .same

theorem adjustCurrent_leaves (code u : Nat) (v : Int) (c : Channel) (s : State) :
    OwnerLeaves s (adjustCurrent code u v c s).state := by
  unfold adjustCurrent
  split
  case h_3 => exact .same
  all_goals
    split
    · exact adjustTime_leaves c v _ s
    · exact adjustLevel_leaves c u _ s
    · exact adjustSetpoint_leaves c u _ s

theorem adjust_leaves (channel code u : Nat) (v : Int) (s : State) :
    OwnerLeaves s (ownAdjust channel code u v s).state := by
  refine onChannel_leaves (fun c => ?_) _ _
  split
  · exact .same
  · exact adjustCurrent_leaves _ _ _ c s

theorem quickStop_leaves (c : Channel) (s : State) : OwnerLeaves s (quickStop c s).state := by
  have hemptied : OwnerLeaves s (emptyChannel c s) := .emptied c
  have hsame : OwnerLeaves s s := .same
  unfold quickStop
  dsimp only
  split <;> assumption

theorem quickSet_leaves (c : Channel) (n : Nat) (s : State) : OwnerLeaves s (quickSet c n s).state := by
  unfold quickSet
  dsimp only
  split
  case h_4 =>
    split
    · exact .levelSet c n
    · exact .same
  case h_5 | h_6 => exact .same
  all_goals
    split
    · exact .same
    · split
      · exact .same
      · exact .quickRun c n

theorem quickLevel_leaves (code level : Nat) (s : State) :
    OwnerLeaves s (ownQuickLevel code level s).state := by
  refine onChannel_leaves (fun c => ?_) _ _
  split_ifs
  · exact .same
  · exact .same
  · exact quickStop_leaves c s
  · exact quickSet_leaves c level s

theorem stopAll_leaves (s : State) : OwnerLeaves s (ownStopAll s).state := by
  simp only [ownStopAll, accepted]
  exact .allStopped

/-! ## The reads and the notices -/

theorem readStage_leaves (code index : Nat) (s : State) :
    OwnerLeaves s (ownReadStage code index s).state := by
  refine onChannel_leaves (fun c => ?_) _ _
  split
  · exact .same
  · exact .cursorSet _

theorem readStageNext_leaves (s : State) : OwnerLeaves s (ownReadStageNext s).state := by
  unfold ownReadStageNext
  split
  · exact .same
  · split
    · exact .same
    · exact .cursorSet _

theorem readFrame_leaves (code : Nat) (s : State) : OwnerLeaves s (ownReadFrame code s).state := by
  unfold ownReadFrame
  split
  · exact .same
  · split
    · exact .same
    · exact .same

theorem fetchNotices_leaves (maximum rearm : Nat) (s : State) :
    OwnerLeaves s (ownFetchNotices maximum rearm s).state := by
  unfold ownFetchNotices
  dsimp only
  split_ifs
  · exact .same
  · exact .same
  · exact .noticesTakenArmed maximum
  · exact .noticesTaken maximum

/-! ## Every kind -/

theorem ownerActs_leaves (k : ReqKind) (body : List Byte) (s : State) :
    OwnerLeaves s (ownerActs k body s).state := by
  cases k
  case status | readConfig => exact .same
  case setBudget => exact setBudget_leaves _ s
  case setHeater => exact setHeater_leaves _ _ _ _ _ s
  case setOvenTuning => exact setOvenTuning_leaves _ _ s
  case setLink => exact setLink_leaves _ _ s
  case closeConfig => exact closeConfig_leaves s
  case restart => exact restart_leaves s
  case planBegin => exact planBegin_leaves _ _ s
  case planStage => exact planStage_leaves _ _ s
  case planCommit => exact planCommit_leaves s
  case start => exact onChannel_leaves (actStart_leaves s) _ _
  case pause => exact onChannel_leaves (actPause_leaves s) _ _
  case resume => exact onChannel_leaves (actResume_leaves s) _ _
  case skip => exact onChannel_leaves (actSkip_leaves s) _ _
  case stop => exact onChannel_leaves (actStop_leaves s) _ _
  case clear => exact onChannel_leaves (actClear_leaves s) _ _
  case adjust => exact adjust_leaves _ _ _ _ s
  case quickLevel => exact quickLevel_leaves _ _ s
  case stopAll => exact stopAll_leaves s
  case readChannel => exact onChannel_leaves (fun _ => .same) _ _
  case readStage =>
    cases body with
    | nil => exact readStageNext_leaves s
    | cons => exact readStage_leaves _ _ s
  case readFrame => exact readFrame_leaves _ s
  case fetchNotices => exact fetchNotices_leaves _ _ s
  case armAttention => exact .armed

/-- A request that the generic checks refuse leaves the state as it was (R167, R168). -/
theorem decideRequest_leaves (r : Request) (s : State) : OwnerLeaves s (decideRequest r s).state := by
  unfold decideRequest
  split
  · exact .same
  · exact ownerActs_leaves _ _ s

end Sys2Proof.Proofs
end

section
/-! The notice queue and the probe's record (R78, R81, R145, R150): what keeps them in range. Most
operations raise notices at most and leave the probe's record alone; the readings and the resets are the
ones that write it. -/

namespace Sys2Proof.Proofs

open Sys2Proof Sys2Proof.Machine Sys2Proof.Claims Sys2Proof.Safety

/-! ## What keeps the ranges -/

/-- What R78 and R81 bound: the probe buffer, the error counter and the fault flag. -/
def probed (o : Ovr) : List Nat × Nat × Bool := (o.buffer, o.errorCounter, o.fault)

/-- A handed demand and the cooling fan leave the probe's record alone. -/
theorem probed_of_unhanded {a b : Ovr} (h : unhanded a = unhanded b) : probed a = probed b :=
  calc probed a = probed (unhanded a) := rfl
    _ = probed (unhanded b) := by rw [h]
    _ = probed b := rfl

theorem probed_of_fanless {a b : Ovr} (h : fanless a = fanless b) : probed a = probed b :=
  probed_of_unhanded (unhanded_of_fanless h)

/-- From s to t the notice queue with ATTN stays in range, and so does the probe's record. -/
structure KeepsRanges (s t : State) : Prop where
  notices : NoticeInv s → NoticeInv t
  probe : ProbeInv s → ProbeInv t

namespace KeepsRanges

variable {s t u : State}

/-- What leaves the notices, ATTN and the probe's record alone keeps the ranges. -/
theorem of_queue (hq : t.ntq.queue = s.ntq.queue) (ha : t.ntq.attn = s.ntq.attn)
    (hp : probed t.ovr = probed s.ovr) : KeepsRanges s t where
  notices h := ⟨hq ▸ h.bound, by rw [ha, hq]; exact h.attn⟩
  probe h := by
    simp only [probed, Prod.mk.injEq] at hp
    obtain ⟨hbuffer, hcounter, hfault⟩ := hp
    exact
      { counter := hcounter ▸ h.counter
        fault := by rw [hfault, hcounter]; exact h.fault
        buffer := hbuffer ▸ h.buffer
        readings := hbuffer ▸ h.readings }

theorem of_same (hn : t.ntq = s.ntq) (hp : probed t.ovr = probed s.ovr) : KeepsRanges s t :=
  of_queue (by rw [hn]) (by rw [hn]) hp

theorem of_blocks (hn : t.ntq = s.ntq) (ho : t.ovr = s.ovr) : KeepsRanges s t :=
  of_same hn (by rw [ho])

theorem refl (s : State) : KeepsRanges s s := of_blocks rfl rfl

/-- The last operation first, then what came before it. -/
theorem after (k : KeepsRanges t u) (h : KeepsRanges s t) : KeepsRanges s u :=
  ⟨fun hs => k.notices (h.notices hs), fun hs => k.probe (h.probe hs)⟩

theorem foldl {α : Type} {f : State → α → State} (hf : ∀ s a, KeepsRanges s (f s a)) (l : List α)
    (s : State) : KeepsRanges s (l.foldl f s) := by
  induction l generalizing s with
  | nil => exact refl s
  | cons a l ih => exact (ih _).after (hf s a)

/-- An operation on the notice queue alone. -/
theorem of_notices (ho : t.ovr = s.ovr) (hn : NoticeInv s → NoticeInv t) : KeepsRanges s t where
  notices := hn
  probe h := ⟨ho ▸ h.counter, ho ▸ h.fault, ho ▸ h.buffer, ho ▸ h.readings⟩

end KeepsRanges

/-! ## The notice queue -/

section Notices

variable (s : State)

/-- ATTN is asserted only over a notice (R149). -/
theorem assertionCheck_ranges : KeepsRanges s (assertionCheck s) := by
  refine .of_notices (by simp) fun hs => ?_
  unfold assertionCheck
  split
  next h =>
    obtain ⟨-, -, hqueue, -⟩ := h
    exact ⟨hs.bound, fun _ => hqueue⟩
  next => exact hs

/-- A notice enters only while the queue holds fewer than 16 (R145). -/
theorem raise_ranges (n : Notice) : KeepsRanges s (raise n s) := by
  unfold raise
  split
  · exact .refl s
  · split
    next hroom =>
      refine (assertionCheck_ranges _).after (.of_notices rfl fun _ => ⟨?_, fun _ => ?_⟩)
      · simp only [State.withNtq_ntq, List.length_append, List.length_singleton]; omega
      · simp
    next => exact .of_queue rfl rfl rfl

theorem armLine_ranges : KeepsRanges s (armLine s) :=
  (assertionCheck_ranges _).after (.of_queue rfl rfl rfl)

/-- A FETCH NOTICES that takes the last notice releases ATTN (R146, R150). -/
theorem takeNotices_ranges (n : Nat) : KeepsRanges s (takeNotices n s) := by
  refine .of_notices rfl fun hs => ⟨?_, fun hattn => ?_⟩
  · have hbound := hs.bound
    simp only [takeNotices, State.withNtq_ntq, List.length_drop]
    omega
  · simp only [takeNotices, State.withNtq_ntq] at hattn ⊢
    split at hattn
    · cases hattn
    · assumption

end Notices

/-! ## The end of an event -/

section Channels

variable (c : Channel) (s : State)

theorem setChan_ranges (r : ChannelRec) : KeepsRanges s (s.setChan c r) := .of_blocks rfl rfl

/-- A change of OVR's record elsewhere. -/
theorem withOvr_ranges {x : Ovr} (hx : probed x = probed s.ovr) : KeepsRanges s (s.withOvr x) :=
  .of_same rfl hx

theorem syncOven_probed : probed (syncOven s).ovr = probed s.ovr := by
  have htaken : probed (ovenTaken s).ovr = probed s.ovr := by unfold ovenTaken; split <;> rfl
  calc probed (syncOven s).ovr
      = probed (handAll (ovenTaken s)).ovr := by rw [syncOven_eq]; rfl
    _ = probed (ovenTaken s).ovr := probed_of_unhanded (handAll_unhanded _)
    _ = probed s.ovr := htaken

/-- A withdrawn permit may raise TIMED-OFF (R120). -/
theorem syncPermit_ranges (n : Burner) : KeepsRanges s (syncPermit c n s) := by
  unfold syncPermit withdrawPermit
  dsimp only
  split
  · split
    · exact (raise_ranges _ _).after (.of_blocks (by simp) (by simp))
    · exact .of_blocks rfl rfl
  · exact .of_blocks rfl rfl
  · exact .refl s

theorem sync_ranges : KeepsRanges s (sync c s) := by
  obtain ⟨n, hn, -⟩ | rfl | ⟨h, hh, -, he⟩ := channel_kinds c
  · rw [sync_of_burner hn]
    exact syncPermit_ranges c s n
  · exact .of_same (sync_electric_keeps rfl s).2 (syncOven_probed s)
  · have hov : c ≠ .ov := by rintro rfl; cases hh
    exact .of_same (sync_electric_keeps he s).2 (probed_of_fanless (sync_fanless hov s))

/-! ## The operations on channels -/

theorem finishPlan_ranges (cause : PlanEnd) (detail : Nat) : KeepsRanges s (finishPlan c cause detail s) :=
  (raise_ranges _ _).after (setChan_ranges c s _)

theorem haltChannel_ranges (cause : HaltCause) : KeepsRanges s (haltChannel c cause s) :=
  (raise_ranges _ _).after (setChan_ranges c s _)

theorem notifyStage_ranges (i : Nat) (cause : EndCause) : KeepsRanges s (notifyStage c i cause s) := by
  unfold notifyStage
  split
  · split
    · exact raise_ranges _ _
    · exact .refl s
  · exact .refl s

/-- A stage ends or is flushed: its mark, its notice, the last end cause. -/
theorem passStage_ranges (i : Nat) (m : Mark) (cause : EndCause) :
    KeepsRanges s (setLastEnd c cause (notifyStage c i cause (markRecord c i m s))) :=
  (setChan_ranges c _ _).after ((notifyStage_ranges c _ i cause).after (setChan_ranges c s _))

theorem findTarget_ranges : KeepsRanges s (findTarget s) := by
  unfold findTarget
  dsimp only
  have hraised (r : ChannelRec) (n : Notice) : KeepsRanges s (raise n (s.setChan .ov r)) :=
    (raise_ranges _ n).after (setChan_ranges .ov s r)
  split
  · exact (withOvr_ranges _ (by rfl)).after (hraised _ _)
  · exact hraised _ _

theorem takeBake_ranges (mode : Mode) (t : Nat) (preheat : Bool) :
    KeepsRanges s (takeBake mode t preheat s) := .of_same rfl rfl

theorem clearContext_ranges (x : OvenContext) : KeepsRanges s (clearContext x s) := withOvr_ranges s rfl

/-- An entry passes over stages, enters one, or ends the plan. -/
theorem enterFrom_ranges (fuel i : Nat) : KeepsRanges s (enterFrom c fuel i s) := by
  induction fuel generalizing i s with
  | zero => exact .refl s
  | succ fuel ih =>
    unfold enterFrom
    split
    next => exact finishPlan_ranges c s _ _
    next p _ =>
      have hentered : KeepsRanges s (enterRecord c i p s) := setChan_ranges c s _
      have htaken (mode : Mode) (t : Nat) :
          KeepsRanges s (takeBake mode t p.spec.preheat (enterRecord c i p s)) :=
        (takeBake_ranges _ mode t _).after hentered
      have hcleared : KeepsRanges s (clearContext .wait (enterRecord c i p s)) :=
        (clearContext_ranges _ .wait).after hentered
      dsimp only
      split
      next => exact (ih _ _).after (passStage_ranges c s i _ _)
      next =>
        split
        next =>
          split
          next mode t _ =>
            split_ifs
            · exact (haltChannel_ranges _ _ _).after (htaken mode t)
            · exact (ih _ _).after
                ((passStage_ranges c _ i _ _).after ((findTarget_ranges _).after (htaken mode t)))
            · exact (findTarget_ranges _).after (htaken mode t)
            · exact htaken mode t
          all_goals exact hcleared
        next => exact hentered

theorem endCurrent_ranges (cause : EndCause) : KeepsRanges s (endCurrent c cause s) :=
  (enterFrom_ranges c _ _ _).after (passStage_ranges c s _ _ _)

theorem targetCheck_ranges : KeepsRanges s (targetCheck s) := by
  unfold targetCheck
  dsimp only
  split
  · split
    · exact .refl s
    · split
      · exact (sync_ranges _ _).after ((endCurrent_ranges _ _ _).after (findTarget_ranges s))
      · exact findTarget_ranges s
  · exact .refl s

theorem pauseChannel_ranges : KeepsRanges s (pauseChannel c s) :=
  (sync_ranges c _).after (setChan_ranges c s _)

theorem resumeChannel_ranges : KeepsRanges s (resumeChannel c s) := by
  unfold resumeChannel
  refine (sync_ranges c _).after ?_
  split
  · exact (targetCheck_ranges _).after (setChan_ranges c s _)
  · exact setChan_ranges c s _

theorem runFromStart_ranges : KeepsRanges s (runFromStart c s) :=
  (sync_ranges c _).after ((enterFrom_ranges c _ _ _).after (setChan_ranges c s _))

theorem reportFault_ranges (cause : HaltCause) : KeepsRanges s (reportFault c cause s) := by
  unfold reportFault
  split
  · exact (sync_ranges c _).after (haltChannel_ranges c s cause)
  · exact .refl s

theorem expirePause_ranges : KeepsRanges s (expirePause c s) :=
  (sync_ranges c _).after ((finishPlan_ranges c _ _ _).after (passStage_ranges c s _ _ _))

theorem advanceSegment_ranges (left : Nat) : KeepsRanges s (advanceSegment c left s) := by
  unfold advanceSegment
  dsimp only
  split
  · split
    · split
      · exact (sync_ranges c _).after (setChan_ranges c s _)
      · exact .refl s
    all_goals exact .refl s
  · exact .refl s

theorem channelTick_ranges : KeepsRanges s (channelTick c s) := by
  unfold channelTick
  split
  · exact .refl s
  · dsimp only
    split
    · exact (sync_ranges c _).after ((endCurrent_ranges c _ _).after (setChan_ranges c s _))
    · exact (advanceSegment_ranges c _ _).after (setChan_ranges c s _)

theorem linkPause_ranges : KeepsRanges s (linkPause c s) := by
  unfold linkPause
  split
  · exact pauseChannel_ranges c s
  · exact .refl s

theorem emptyRecord_ranges : KeepsRanges s (emptyRecord c s) := .of_blocks rfl rfl

theorem emptyChannel_ranges : KeepsRanges s (emptyChannel c s) :=
  (sync_ranges c _).after (emptyRecord_ranges c s)

theorem reportClosing_ranges : KeepsRanges s (reportClosing c s) := by
  unfold reportClosing
  split
  · exact emptyChannel_ranges c s
  · exact .refl s

theorem stopEverything_ranges : KeepsRanges s (stopEverything s) := by
  have hburners (t : State) : KeepsRanges t (stopBurners t) := .of_blocks (by simp) (by simp)
  have hclosed (t : State) : KeepsRanges t (closeLoad t) := .of_blocks rfl rfl
  exact (hburners _).after ((KeepsRanges.foldl (fun t c => sync_ranges c t) _ _).after
    ((hclosed _).after (.foldl (fun t c => emptyRecord_ranges c t) _ s)))

theorem setLevel_ranges (n : Nat) : KeepsRanges s (setLevel c n s) :=
  (sync_ranges c _).after (setChan_ranges c s _)

theorem overshootCut_ranges : KeepsRanges s (overshootCut s) := by
  refine .of_same (by simp) ?_
  unfold overshootCut
  split
  · rfl
  · split
    · exact probed_of_unhanded (handZeros_unhanded _ s)
    · rfl

theorem setSetpoint_ranges (mode : Mode) (t : Nat) : KeepsRanges s (setSetpoint mode t s) := by
  unfold setSetpoint
  refine (targetCheck_ranges _).after ((overshootCut_ranges _).after ?_)
  dsimp only
  split
  · exact .of_same rfl rfl
  · exact .of_same rfl rfl

end Channels

/-! ## The requests -/

theorem configClosed_ranges (s : State) : KeepsRanges s (ownCloseConfig s).state := by
  unfold ownCloseConfig
  split
  · exact .refl s
  · exact .of_blocks (by simp [accepted]) (by simp [accepted])

/-- What a request's owner leaves is in range: only FETCH NOTICES and ARM ATTENTION touch the queue of
themselves, and none the probe's record. -/
theorem OwnerLeaves.ranges {s t : State} (h : OwnerLeaves s t) : KeepsRanges s t := by
  cases h with
  | same => exact .refl s
  | configured x => exact .of_blocks rfl rfl
  | configClosed => exact configClosed_ranges s
  | loading x => exact .of_blocks rfl rfl
  | committed c x plan => exact (sync_ranges c _).after (.of_blocks rfl rfl)
  | started c => exact runFromStart_ranges c s
  | paused c => exact pauseChannel_ranges c s
  | resumed c => exact resumeChannel_ranges c s
  | skipped c => exact (sync_ranges c _).after (endCurrent_ranges c s .cut)
  | emptied c => exact emptyChannel_ranges c s
  | timeAdded c n e => exact .of_blocks rfl rfl
  | levelSet c n => exact setLevel_ranges c s n
  | setpointSet m t => exact setSetpoint_ranges s m t
  | quickRun c n => exact (runFromStart_ranges c _).after (.of_blocks rfl rfl)
  | allStopped => exact stopEverything_ranges s
  | cursorSet x => exact .of_blocks rfl rfl
  | noticesTaken n => exact takeNotices_ranges s n
  | noticesTakenArmed n => exact (armLine_ranges _).after (takeNotices_ranges s n)
  | armed => exact armLine_ranges s

end Sys2Proof.Proofs
end

section
/-! The notice queue and the probe's record (R78 to R81, R145, R150): the events, the readings, the link
and the commands. -/

namespace Sys2Proof.Proofs

open Sys2Proof Sys2Proof.Machine Sys2Proof.Claims Sys2Proof.Safety

/-! ## The burners -/

section Burners

variable (n : Burner) (s : State)

theorem failAttempt_ranges : KeepsRanges s (failAttempt n s) := by
  unfold failAttempt
  dsimp only
  split
  · exact (raise_ranges _ _).after (.of_blocks (by simp) (by simp))
  · exact .of_blocks (by simp) (by simp)

theorem loseFlame_ranges : KeepsRanges s (loseFlame n s) := by
  unfold loseFlame
  dsimp only
  split
  · exact (raise_ranges _ _).after ((raise_ranges _ _).after (.of_blocks rfl rfl))
  · exact (raise_ranges _ _).after (.of_blocks rfl rfl)

theorem thawFlame_ranges : KeepsRanges s (thawFlame n s) := by
  unfold thawFlame
  split
  · split_ifs
    · exact .of_blocks rfl rfl
    · exact loseFlame_ranges n s
    · exact .of_blocks rfl rfl
  · exact .refl s

end Burners

/-! ## The power frame -/

section Events

variable (s : State)

theorem formSet_ranges : KeepsRanges s (formSet s) := .of_same rfl rfl

theorem boostSwitch_ranges : KeepsRanges s (boostSwitch s) := by
  unfold boostSwitch
  dsimp only
  split
  · have hformed : KeepsRanges s
        (formSet (s.withOvr { s.ovr with source := .mode, boostEndPending := false })) :=
      (formSet_ranges _).after (withOvr_ranges s rfl)
    refine (withOvr_ranges _ (by rfl)).after ?_
    split
    · exact (reportFault_ranges _ _ _).after hformed
    · exact hformed
  · exact .refl s

theorem frameDemand_ranges (h : OvenHeater) (d : Nat) : KeepsRanges s (frameDemand h d s) := by
  refine .of_same (by simp) ?_
  unfold frameDemand
  dsimp only
  split <;> rfl

theorem frameOven_ranges : KeepsRanges s (frameOven s) :=
  (KeepsRanges.foldl (fun t h => frameDemand_ranges t h _) _ _).after (boostSwitch_ranges s)

theorem setCommands_ranges : KeepsRanges s (setCommands s) := by
  refine .of_same (by simp) ?_
  have hset : probed (commandsSet s).ovr = probed s.ovr := by rw [commandsSet_ovr]
  obtain ⟨-, h⟩ | ⟨-, h⟩ := setCommands_cases s <;> rw [h]
  · exact hset
  · exact hset

theorem frameEvent_ranges : KeepsRanges s (frameEvent s) := by
  have hopened : KeepsRanges s (openFrame s) := .of_blocks (by simp) (by simp)
  have hplaced (t : State) : KeepsRanges t (placeFrame t) := .of_blocks (by simp) (by simp)
  exact (setCommands_ranges _).after ((hplaced _).after ((frameOven_ranges _).after hopened))

theorem slotEvent_ranges : KeepsRanges s (slotEvent s) :=
  (setCommands_ranges _).after (.of_blocks rfl rfl)

/-! ## The findings -/

/-- A hold writes OVR's cooling fan at most (R68, R97). -/
theorem holdHeater_ranges (h : Heater) (cause : HoldCause) : KeepsRanges s (holdHeater h cause s) :=
  .of_same (by simp) (probed_of_fanless (holdHeater_fanless h cause s))

theorem handDemand_ranges (h : OvenHeater) (d : Nat) : KeepsRanges s (handDemand h d s) :=
  .of_same (by simp) ((probed_of_fanless (handDemand_fanless h d s)).trans rfl)

theorem settleAll_ranges : KeepsRanges s (settleAll s) := .of_blocks (by simp) (by simp)

theorem withOut_ranges (x : OutStage) : KeepsRanges s (s.withOut x) := .of_blocks rfl rfl

/-- The set check that follows the failure of an oven heater (R83, R84). -/
theorem checkSet_ranges : KeepsRanges s (if s.ovr.context = .bake then
    (if emptyByFailure (formSet s) then reportFault .ov .element (formSet s) else formSet s)
    else s) := by
  split
  · split
    · exact (reportFault_ranges _ _ _).after (formSet_ranges s)
    · exact formSet_ranges s
  · exact .refl s

theorem findFailed_ranges (h : Heater) : KeepsRanges s (findFailed h s) := by
  have hmarked (x : HeaterOut) (n : Notice) :
      KeepsRanges s (raise n ((holdHeater h .failed s).setHeaterOut h x)) :=
    (raise_ranges _ n).after ((withOut_ranges _ _).after (holdHeater_ranges s h .failed))
  unfold findFailed
  dsimp only
  cases h
  case hz1 | hz2 | hgrill => exact (reportFault_ranges _ _ _).after (hmarked _ _)
  all_goals exact (checkSet_ranges _).after ((handDemand_ranges _ _ 0).after (hmarked _ _))

theorem markWelded_ranges (detail : Nat) (h : Heater) : KeepsRanges s (markWelded detail h s) :=
  (raise_ranges _ _).after (withOut_ranges s _)

theorem holdSupply_ranges : KeepsRanges s (holdSupply s) :=
  .foldl (fun t h => holdHeater_ranges t h .supplyOff) _ s

theorem findWelded_ranges (h : Heater) (also : List Heater) : KeepsRanges s (findWelded h also s) := by
  unfold findWelded
  have hsettled (t : State) (x : OutStage) : KeepsRanges t (settleAll (t.withOut x)) :=
    (settleAll_ranges _).after (withOut_ranges t x)
  have hmarked (l : List Heater) : KeepsRanges s
      (l.foldl (fun t g => markWelded 1 g t) (markWelded 0 h s)) :=
    (KeepsRanges.foldl (fun t g => markWelded_ranges t 1 g) l _).after (markWelded_ranges s 0 h)
  exact (hsettled _ _).after ((KeepsRanges.foldl (fun t c => reportFault_ranges c t .supply) _ _).after
    ((raise_ranges _ _).after ((hsettled _ _).after ((holdSupply_ranges _).after
      ((withOut_ranges _ _).after (hmarked _))))))

/-- LOCKED freezes the queue and ATTN as they are (R153), and keeps the probe's record (R98). -/
theorem enterLocked_ranges : KeepsRanges s (enterLocked s) := .of_queue rfl rfl rfl

theorem runReached_ranges (h : Heater) (also : List Heater) : KeepsRanges s (runReached h also s) := by
  unfold runReached
  split
  · split
    · exact enterLocked_ranges s
    · split
      · exact findFailed_ranges s h
      · exact findWelded_ranges s h also
  · exact .refl s

/-! ## Link loss and the clock -/

theorem loseLink_ranges : KeepsRanges s (loseLink s) := by
  have hlink (t : State) (x : Lnk) : KeepsRanges t (t.withLnk x) := .of_blocks rfl rfl
  unfold loseLink
  exact (hlink _ _).after ((raise_ranges _ _).after
    ((KeepsRanges.foldl (fun t c => linkPause_ranges c t) _ _).after (hlink s _)))

/-- A millisecond moves timers alone. -/
theorem advance_ranges : KeepsRanges s (advance s) := .of_queue rfl rfl rfl

theorem idleStep_ranges : KeepsRanges s (idleStep s) := by
  unfold idleStep
  split
  · exact advance_ranges s
  · exact .of_blocks rfl rfl
  · exact .of_blocks rfl rfl

/-- After a reset the queue and the buffer are empty and the error counter is 0 (R175). -/
theorem resetBlocks_ranges (cause : ResetCause) (t : State) : KeepsRanges s (resetBlocks cause t) where
  notices _ := ⟨Nat.zero_le _, nofun⟩
  probe _ := ⟨Nat.zero_le _, nofun, Nat.zero_le _, nofun⟩

/-! ## The readings (R78 to R81) -/

theorem pushReading_length {buffer : List Nat} (h : buffer.length ≤ 4) (t : Nat) :
    (pushReading t buffer).length ≤ 4 := by
  simp only [pushReading, List.length_drop, List.length_append, List.length_singleton]
  omega

theorem mem_pushReading {buffer : List Nat} {t r : Nat} (h : r ∈ pushReading t buffer) :
    r ∈ buffer ∨ r = t := by
  simpa using List.mem_of_mem_drop h

/-- A valid reading in OVR's record, before it is acted on: it joins the buffer, and the fault stays only
while the counter is above 0. -/
theorem validReading_probe {s : State} {t : Nat} (ht : t ≤ 330) (hs : ProbeInv s) :
    ProbeInv (s.withOvr { s.ovr with
      buffer := pushReading t s.ovr.buffer
      errorCounter := s.ovr.errorCounter - 1
      fault := s.ovr.fault && !(s.ovr.fault && decide (s.ovr.errorCounter - 1 = 0)) }) where
  counter := (Nat.sub_le _ _).trans hs.counter
  fault h := by
    simp only [State.withOvr_ovr, Bool.and_eq_true, Bool.not_eq_true', Bool.and_eq_false_iff,
      decide_eq_false_iff_not] at h ⊢
    obtain ⟨hfault, hclear | hcount⟩ := h
    · rw [hfault] at hclear; cases hclear
    · exact Nat.pos_of_ne_zero hcount
  buffer := pushReading_length hs.buffer t
  readings r hr := (mem_pushReading hr).elim (hs.readings r) fun h => h ▸ ht

theorem validReading_ranges {t : Nat} (ht : t ≤ 330) : KeepsRanges s (validReading t s) := by
  have hcooled (u : State) : KeepsRanges u (evalCoolingFanAtReading u) := withOvr_ranges u rfl
  unfold validReading
  refine (hcooled _).after ((overshootCut_ranges _).after ((targetCheck_ranges _).after ?_))
  have htaken : KeepsRanges s (s.withOvr { s.ovr with
      buffer := pushReading t s.ovr.buffer
      errorCounter := s.ovr.errorCounter - 1
      fault := s.ovr.fault && !(s.ovr.fault && decide (s.ovr.errorCounter - 1 = 0)) }) :=
    ⟨fun h => ⟨h.bound, h.attn⟩, validReading_probe ht⟩
  dsimp only
  split
  · exact (raise_ranges _ _).after htaken
  · exact htaken

/-- An invalid reading leaves the counter above 0, whether or not it sets the fault. -/
theorem invalidReading_ranges : KeepsRanges s (invalidReading s) := by
  have hcounted (fault : Bool) : KeepsRanges s (s.withOvr { s.ovr with
      errorCounter := min 16 (s.ovr.errorCounter + 2), fault := fault }) :=
    { notices := fun h => ⟨h.bound, h.attn⟩
      probe := fun h => ⟨Nat.min_le_left _ _, fun _ => by simp, h.buffer, h.readings⟩ }
  unfold invalidReading
  dsimp only
  split
  · exact (reportFault_ranges _ _ _).after ((raise_ranges _ _).after (hcounted _))
  · exact hcounted _

/-- A reading is taken as valid only up to 330 degrees (R77). -/
theorem probeReading_ranges {reading : Int} {t : State} (h : exec (.probeReading reading) s = .next t) :
    KeepsRanges s t := by
  cases h
  have hshown : KeepsRanges s (s.withPins { s.pins with prb := reading }) := .of_blocks rfl rfl
  have hperiod : KeepsRanges s ((s.withPins { s.pins with prb := reading }).withOvr
      { s.ovr with probeTimer := some 1000 }) := (withOvr_ranges _ (by rfl)).after hshown
  dsimp only
  split
  · split
    next hvalid => exact (validReading_ranges _ (by omega)).after hperiod
    next => exact (invalidReading_ranges _).after hperiod
  · exact hshown

/-! ## The link -/

theorem withLnk_ranges (x : Lnk) : KeepsRanges s (s.withLnk x) := .of_blocks rfl rfl

theorem takeRequest_ranges (r : Request) : KeepsRanges s (takeRequest r s) := by
  have hdecided := (decideRequest_leaves r s).ranges
  unfold takeRequest
  split
  · refine KeepsRanges.after ?_ hdecided
    unfold answerRequest clearReported
    split <;> exact .of_blocks rfl rfl
  · exact hdecided

theorem placeRequest_ranges (r : Request) : KeepsRanges s (placeRequest r s) := by
  unfold placeRequest
  split
  · exact takeRequest_ranges s r
  all_goals exact withLnk_ranges s _

theorem acceptFrame_ranges (r : Request) : KeepsRanges s (acceptFrame r s) := by
  have hheard : KeepsRanges s (restartSupervision s) := by
    unfold restartSupervision
    split
    · exact withLnk_ranges s _
    · exact .refl s
  unfold acceptFrame
  dsimp only
  split
  · exact (placeRequest_ranges _ r).after hheard
  · split
    · exact (placeRequest_ranges _ r).after hheard
    · exact hheard

theorem abandonFrame_ranges : KeepsRanges s (abandonFrame s) := by
  unfold abandonFrame
  split
  · exact withLnk_ranges s _
  all_goals exact .refl s

theorem arriveRequest_ranges (a : FrameAddr) (kind tag : Byte) (body : List Byte) :
    KeepsRanges s (arriveRequest a kind tag body s) := by
  unfold arriveRequest
  dsimp only
  split
  · exact (withLnk_ranges _ _).after (abandonFrame_ranges s)
  · exact (acceptFrame_ranges _ _).after ((withLnk_ranges _ _).after (abandonFrame_ranges s))

theorem addressChar_ranges (a : Byte) : KeepsRanges s (addressChar a s) := by
  unfold addressChar
  dsimp only
  split_ifs
  all_goals exact (withLnk_ranges _ _).after (abandonFrame_ranges s)

theorem dataChar_ranges (d : Byte) : KeepsRanges s (dataChar d s) := by
  unfold dataChar completeFrame
  dsimp only
  split
  · exact .refl s
  · exact .refl s
  · split_ifs
    · exact withLnk_ranges s _
    · exact (acceptFrame_ranges _ _).after (withLnk_ranges s _)
    · exact (withLnk_ranges _ _).after (withLnk_ranges s _)
    · exact withLnk_ranges s _

theorem startReply_ranges : KeepsRanges s (startReply s) := by
  unfold startReply
  split
  · exact withLnk_ranges s _
  · exact .refl s

theorem endReply_ranges : KeepsRanges s (endReply s) := by
  unfold endReply
  split
  · split
    · exact resetBlocks_ranges s .requested s
    · unfold takeWaiting
      split
      · exact withLnk_ranges s _
      · exact (takeRequest_ranges _ _).after ((withLnk_ranges _ _).after (withLnk_ranges s _))
  all_goals exact .refl s

/-! ## The commands -/

/-- A command that acts where some condition holds, and else leaves the state as it was. -/
theorem ite_ranges {p : Prop} [Decidable p] {u : State} (h : p → KeepsRanges s u) :
    KeepsRanges s (if p then u else s) := by
  split
  next hp => exact h hp
  next => exact .refl s

theorem pauseTimerSecond_ranges {c : Channel} {t : State} (h : exec (.pauseTimerSecond c) s = .next t) :
    KeepsRanges s t := by
  cases h
  split
  · exact .refl s
  · split
    · exact expirePause_ranges c s
    · exact setChan_ranges c s _

theorem doorOpened_ranges {t : State} (h : exec .doorOpened s = .next t) : KeepsRanges s t := by
  cases h
  split
  · exact .refl s
  · have htaken : KeepsRanges s (takeDoor .opened s) := .of_same rfl rfl
    exact (withOvr_ranges _ (by rfl)).after ((handDemand_ranges _ .ring 0).after htaken)

theorem holdTailEnd_ranges {t : State} (h : exec .holdTailEnd s = .next t) : KeepsRanges s t := by
  cases h
  have hclosed (x : Bsv) : KeepsRanges s (s.withBsv x) := .of_blocks rfl rfl
  split
  · exact (KeepsRanges.foldl (fun t n => thawFlame_ranges n t) _ _).after (hclosed _)
  all_goals exact .refl s

/-- Every command keeps the ranges. -/
theorem exec_ranges {t : State} (i : Instr) (h : exec i s = .next t) : KeepsRanges s t := by
  have hrequest {r : Request} (hr : requestFrame i = some r) : KeepsRanges s t := by
    rw [exec_eq_arrive s hr] at h
    cases h
    exact arriveRequest_ranges s _ _ _ _
  cases i
  case powerOnReset => cases h; exact resetBlocks_ranges s .powerOn _
  case addressCharacter a => cases h; exact addressChar_ranges s a
  case dataCharacter d => cases h; exact dataChar_ranges s d
  case framingError => cases h; exact abandonFrame_ranges s
  case gapTimeout => cases h; exact ite_ranges s fun _ => abandonFrame_ranges s
  case replyStart => cases h; exact startReply_ranges s
  case replySent => cases h; exact endReply_ranges s
  case linkSupervisionExpiry => cases h; exact ite_ranges s fun _ => loseLink_ranges s
  case loadIdleTimeout => cases h; exact ite_ranges s fun _ => .of_blocks rfl rfl
  case channelSecond c =>
    cases h
    exact ite_ranges s fun _ => (channelTick_ranges c _).after (setChan_ranges c s _)
  case stageElapsed c =>
    cases h
    exact ite_ranges s fun _ => (sync_ranges c _).after ((endCurrent_ranges c _ _).after
      ((setChan_ranges c _ _).after (setChan_ranges c s _)))
  case pauseTimerSecond => exact pauseTimerSecond_ranges s h
  case pauseExpiry c => cases h; exact ite_ranges s fun _ => expirePause_ranges c s
  case slotBoundary => cases h; exact ite_ranges s fun _ => slotEvent_ranges s
  case frameBoundary =>
    cases h; split
    · exact .refl s
    · exact frameEvent_ranges s
  case probeReading => exact probeReading_ranges s h
  case doorOpened => exact doorOpened_ranges s h
  case knobClosed n =>
    cases h; split
    · exact .refl s
    · exact (reportClosing_ranges _ _).after (.of_blocks (by simp) (by simp))
  case attemptFailed n => cases h; exact ite_ranges s fun _ => failAttempt_ranges n s
  case flameLost n => cases h; exact ite_ranges s fun _ => loseFlame_ranges n s
  case holdTailEnd => exact holdTailEnd_ranges s h
  case persistenceRunExpiry g also => cases h; exact runReached_ranges s g also
  case spacingTimerExpiry =>
    cases h
    exact ite_ranges s fun _ => (assertionCheck_ranges _).after (.of_queue rfl rfl rfl)
  case doorInputChange =>
    cases h
    dsimp only
    repeat' split
    all_goals exact .of_same rfl rfl
  case doorClosed => cases h; split <;> exact .of_same rfl rfl
  case knobInputChange | flameSenseChange | loadSenseChange =>
    cases h
    dsimp only
    repeat' split
    all_goals exact .of_blocks rfl rfl
  case knobOpened | restTimerExpiry | flameProven | retryGapExpiry | settlingEnd
    | contactorProvingExpiry =>
    cases h
    repeat' split
    all_goals exact .of_blocks (by simp) (by simp)
  all_goals exact hrequest rfl

end Events

/-- Settles O54: a command keeps the ranges, and so does the part's own clock. -/
theorem queueAndProbeStayInRange : Obligations.QueueAndProbeStayInRange := by
  intro s t hstep
  have hkeeps : KeepsRanges s t := by
    unfold step at hstep
    split at hstep
    next c rest _ =>
      have hwaiting : KeepsRanges s (s.withPending rest) := .of_blocks rfl rfl
      exact (exec_ranges _ c hstep).after hwaiting
    next => cases hstep; exact idleStep_ranges s
  exact ⟨hkeeps.notices, hkeeps.probe⟩

end Sys2Proof.Proofs
end

section
/-! The oven demand (R78, R83, R85). -/

namespace Sys2Proof.Proofs

open Sys2Proof Sys2Proof.Machine

/-! ## The filtered temperature -/

theorem tempF_empty {s : State} (h : s.ovr.buffer = []) : s.tempF = none := by
  unfold State.tempF filtered; rw [h]

theorem tempF_mean {s : State} (h : s.ovr.buffer ≠ []) :
    s.tempF = some (s.ovr.buffer.sum / s.ovr.buffer.length) := by
  unfold State.tempF filtered
  cases hb : s.ovr.buffer with
  | nil => exact absurd hb h
  | cons => rfl

/-! ## The least slots that cover -/

/-- The quotient rounded up, cut at 32, is the least number of slots that covers the work. -/
theorem min_ceilDiv_covers {work band : Nat} (hw : 0 < work) (hb : 0 < band) :
    let d := min 32 ((work + band - 1) / band)
    1 ≤ d ∧ d ≤ 32 ∧ (d < 32 → work ≤ d * band) ∧ (d - 1) * band < work := by
  intro d
  have hup (n : Nat) : (work + band - 1) / band ≤ n ↔ work ≤ n * band := by
    rw [← Nat.ceilDiv_eq_add_pred_div, ceilDiv_le_iff_le_mul hb, mul_comm]
  have hpos : 1 ≤ (work + band - 1) / band := by
    by_contra h
    have hnone : work ≤ 0 * band := (hup 0).1 (by omega)
    omega
  obtain ⟨hone, hmost, hle⟩ : 1 ≤ d ∧ d ≤ 32 ∧ d ≤ (work + band - 1) / band := by omega
  refine ⟨hone, hmost, fun hlt => (hup d).1 (by omega), ?_⟩
  by_contra h
  have hfewer : (work + band - 1) / band ≤ d - 1 := (hup (d - 1)).2 (by omega)
  omega

/-! ## The demand of one heater -/

section

variable {s : State} {h : OvenHeater}

/-- A heater that the oven demand reaches: in the active set, and not HRING with the door open (R93). -/
def takesDemand (s : State) (h : OvenHeater) : Prop :=
  s.ovr.active.get h = true ∧ ¬ (h = .ring ∧ s.ovr.doorState = .opened)

theorem heaterDemand_takes (ht : takesDemand s h) : heaterDemand s h = ovenDemand s := by
  obtain ⟨hactive, hdoor⟩ := ht
  rw [heaterDemand, if_neg (by simp [hactive]), if_neg hdoor]

theorem heaterDemand_zero (hz : ¬ takesDemand s h ∨ ovenDemand s = 0) : heaterDemand s h = 0 := by
  by_cases ht : takesDemand s h
  · exact (heaterDemand_takes ht).trans (hz.resolve_left fun hn => hn ht)
  · unfold heaterDemand
    split_ifs with hactive hdoor
    · rfl
    · rfl
    · exact absurd ⟨by simpa using hactive, hdoor⟩ ht

theorem ovenDemand_undefined (ht : s.tempF = none) : ovenDemand s = 0 := by
  unfold ovenDemand; rw [ht]

/-- The oven demand at a defined T_f. -/
theorem ovenDemand_defined {f : Nat} (hf : s.tempF = some f) :
    ovenDemand s = if bakeRunning s = false ∨ s.ovr.mode = .defrost ∨ s.ovr.setpoint ≤ f then 0
      else min 32 ((32 * (s.ovr.setpoint - f) + s.cfg.band - 1) / s.cfg.band) := by
  unfold ovenDemand; rw [hf]

/-- Without a bake that demands heat there is no demand. -/
theorem ovenDemand_idle (hb : ¬ (bakeRunning s = true ∧ s.ovr.mode ≠ .defrost)) : ovenDemand s = 0 := by
  cases hf : s.tempF with
  | none => exact ovenDemand_undefined hf
  | some f =>
    rw [ovenDemand_defined hf, if_pos]
    by_cases hmode : s.ovr.mode = .defrost
    · exact .inr (.inl hmode)
    · exact .inl (Bool.eq_false_iff.2 fun hr => hb ⟨hr, hmode⟩)

end

/-- Settles O40: the heater takes the oven demand or none, and the oven demand is the missing degrees over
the band, rounded up. -/
theorem ovenDemandIsProportional : Obligations.OvenDemandIsProportional := by
  intro h s bakes takes d
  have hbakes : bakes ↔ bakeRunning s = true ∧ s.ovr.mode ≠ .defrost := by
    rw [bakeRunning_iff, and_assoc]
  have htakes : takes ↔ takesDemand s h := Iff.rfl
  refine ⟨tempF_empty, tempF_mean, ?_, fun f hf hb ht => ?_⟩
  · rintro (hb | ht | hf)
    · exact heaterDemand_zero (.inr (ovenDemand_idle fun hr => hb (hbakes.2 hr)))
    · exact heaterDemand_zero (.inl ht)
    · exact heaterDemand_zero (.inr (ovenDemand_undefined hf))
  · obtain ⟨hrun, hmode⟩ := hbakes.1 hb
    have hdemand : d = _ := (heaterDemand_takes ht).trans (ovenDemand_defined hf)
    constructor
    · intro hreached
      rw [hdemand, if_pos (.inr (.inr hreached))]
    · intro hbelow hband e
      have hneg : ¬ (bakeRunning s = false ∨ s.ovr.mode = .defrost ∨ s.ovr.setpoint ≤ f) := by
        rintro (hidle | hdefrost | hreached)
        · rw [hrun] at hidle; cases hidle
        · exact hmode hdefrost
        · omega
      rw [hdemand, if_neg hneg]
      exact min_ceilDiv_covers (by omega) hband

end Sys2Proof.Proofs
end

section
/-! The probe readings (R77 to R81). -/

namespace Sys2Proof.Proofs

open Sys2Proof Sys2Proof.Machine Sys2Proof.Claims

/-! ## The parts of a reading -/

/-- The buffer keeps the last four readings (R78). -/
theorem pushReading_eq {buffer : List Nat} (h : buffer.length ≤ 4) (t : Nat) :
    pushReading t buffer = (if buffer.length < 4 then buffer else buffer.tail) ++ [t] := by
  unfold pushReading
  split
  next hlt =>
    have hnone : buffer.length - 3 = 0 := by omega
    rw [hnone, List.drop_zero]
  next hfull =>
    have hone : buffer.length - 3 = 1 := by omega
    have hle : 1 ≤ buffer.length := by omega
    rw [hone, List.drop_append_of_le_length hle, List.drop_one]

/-- With the four commands off and a defined T_f, the fan keeps its state from 50 to 59 degrees (R97). -/
theorem coolingFanValue_off (f : Nat) (now : Bool) :
    coolingFanValue false (some f) now = (decide (60 ≤ f) || (decide (50 ≤ f) && now)) := by
  unfold coolingFanValue
  dsimp only
  split_ifs with hhot hcold
  · simp [hhot]
  · simp [hhot, hcold]
  · simp [hhot, Nat.not_lt.1 hcold]

/-- The start of a reading: PRB shows it, and the next period runs (R77). -/
def polled (reading : Int) (s : State) : State :=
  (s.withPins { s.pins with prb := reading }).withOvr { s.ovr with probeTimer := some 1000 }

section

variable {reading : Int} {s : State}

theorem exec_probeReading_stopped (h : s.ovr.probeTimer = none) :
    exec (.probeReading reading) s = .next (s.withPins { s.pins with prb := reading }) :=
  congrArg _ (if_neg (by simp [h]))

theorem exec_probeReading_running (h : s.ovr.probeTimer.isSome = true) :
    exec (.probeReading reading) s = .next
      (if 0 ≤ reading ∧ reading ≤ 330 then validReading reading.toNat (polled reading s)
      else invalidReading (polled reading s)) :=
  congrArg _ (if_pos h)

end

/-! ## An invalid reading -/

section

variable {s : State}

/-- A fault that stands is not set again, and below 8 none is set (R80). -/
theorem invalidReading_counts (h : s.ovr.fault = true ∨ min 16 (s.ovr.errorCounter + 2) < 8) :
    invalidReading s = s.withOvr { s.ovr with errorCounter := min 16 (s.ovr.errorCounter + 2) } := by
  have hnone : (!s.ovr.fault && decide (8 ≤ min 16 (s.ovr.errorCounter + 2))) = false := by
    obtain h | h := h
    · simp [h]
    · rw [decide_eq_false (Nat.not_le.2 h), Bool.and_false]
  unfold invalidReading
  dsimp only
  rw [hnone, Bool.or_false]
  rfl

/-- The counter comes to 8 with no fault set (R80). -/
theorem invalidReading_faults (hf : s.ovr.fault = false) (h : 8 ≤ min 16 (s.ovr.errorCounter + 2)) :
    invalidReading s = reportFault .ov .probe
      (raise (probeNotice 1 (min 16 (s.ovr.errorCounter + 2)))
        (s.withOvr { s.ovr with errorCounter := min 16 (s.ovr.errorCounter + 2), fault := true })) := by
  unfold invalidReading
  dsimp only
  rw [hf, decide_eq_true h]
  rfl

/-- A probe fault halts OV while it is RUNNING or PAUSED (R23). -/
theorem reportProbe_eq (s : State) : reportFault .ov .probe s =
    if (s.chan .ov).state = .running ∨ (s.chan .ov).state = .paused then
      sync .ov (haltChannel .ov .probe s)
    else s := by
  unfold reportFault
  cases (s.chan .ov).state <;> simp [faultReaches]

end

/-! ## A valid reading -/

/-- A valid reading, its PROBE CLEAR notice included, before the checks of R78. -/
def readingTaken (t : Nat) (s : State) : State :=
  let n := s.ovr.errorCounter - 1
  let u := s.withOvr { s.ovr with
    errorCounter := n
    buffer := (if s.ovr.buffer.length < 4 then s.ovr.buffer else s.ovr.buffer.tail) ++ [t]
    fault := s.ovr.fault && decide (n ≠ 0) }
  if s.ovr.fault = true ∧ n = 0 then raise (probeNotice 2 0) u else u

theorem validReading_eq {s : State} (h : s.ovr.buffer.length ≤ 4) (t : Nat) :
    validReading t s =
      evalCoolingFanAtReading (overshootCut (targetCheck (readingTaken t s))) := by
  have hfault (f : Bool) (n : Nat) : (f && !(f && decide (n = 0))) = (f && decide (n ≠ 0)) := by
    cases f <;> simp
  have hclears : ((s.ovr.fault && decide (s.ovr.errorCounter - 1 = 0)) = true) =
      (s.ovr.fault = true ∧ s.ovr.errorCounter - 1 = 0) := by simp
  simp only [validReading, readingTaken, pushReading_eq h, hfault, hclears]

theorem raise_chan (n : Notice) (s : State) (c : Channel) : (raise n s).chan c = s.chan c := by simp

/-- Settles O42: each reading by what stands of the probe timer, its range, the fault and the counter. -/
theorem probeReadingsAreTaken : Obligations.ProbeReadingsAreTaken := by
  intro reading s hbuffer o shown cooling cooled
  refine ⟨exec_probeReading_stopped, fun k hk => ?_⟩
  have hrun := exec_probeReading_running (reading := reading) (s := s) (by rw [hk]; rfl)
  constructor
  · intro hout n u w active
    have hexec : exec (.probeReading reading) s = .next (invalidReading (polled reading s)) := by
      rw [hrun, if_neg (by omega)]
    have hfaults (hf : o.fault = false) (hn : 8 ≤ n) :
        invalidReading (polled reading s) = reportFault .ov .probe w := invalidReading_faults hf hn
    have hov : w.chan .ov = s.chan .ov := raise_chan _ _ .ov
    refine ⟨fun h => ?_, fun hf hn hidle => ?_, fun hf hn hactive => ?_⟩
    · exact hexec.trans (congrArg _ (invalidReading_counts (s := polled reading s) h))
    · rw [hexec, hfaults hf hn, reportProbe_eq, hov, if_neg hidle]
    · rw [hexec, hfaults hf hn, reportProbe_eq, hov, if_pos hactive, haltChannel_eq, hov]
      rfl
  · intro hlow hhigh n buffer u w
    have hfan (v : State) : coolingFanValue (ovenOrGrillOn v) v.tempF
        (v.ovr.coolingFan || v.ovr.fanJustOff) = cooling v := by
      simp only [cooling]
      cases ovenOrGrillOn v with
      | true => rfl
      | false =>
        cases v.tempF with
        | none => rfl
        | some f => exact coolingFanValue_off f _
    have hcooled (v : State) : evalCoolingFanAtReading v = cooled v := by
      simp only [evalCoolingFanAtReading, hfan, cooled]
    rw [hrun, if_pos ⟨hlow, hhigh⟩, validReading_eq (s := polled reading s) hbuffer, hcooled]
    rfl

end Sys2Proof.Proofs
end

section
/-! The oven door (R92 to R94). -/

namespace Sys2Proof.Proofs

open Sys2Proof Sys2Proof.Machine

section

variable {s : State}

theorem exec_doorInputChange_same {level : DoorPos} (h : level = s.pins.door) :
    exec (.doorInputChange level) s = .next s := congrArg _ (if_pos h)

theorem exec_doorInputChange_moved {level : DoorPos} (h : level ≠ s.pins.door) :
    exec (.doorInputChange level) s = .next
      (if s.out.locked = true then withDoor level s
      else (withDoor level s).withOvr { s.ovr with
        doorDebounce := if level = s.ovr.doorState then none else some 0 }) :=
  congrArg _ (if_neg h)

/-- A report of the level the door state has, or one in LOCKED, leaves the state as it was. -/
theorem exec_doorOpened_idle (h : s.out.locked = true ∨ s.ovr.doorState = .opened) :
    exec .doorOpened s = .next s := congrArg _ (if_pos h)

theorem exec_doorClosed_idle (h : s.out.locked = true ∨ s.ovr.doorState = .shut) :
    exec .doorClosed s = .next s := congrArg _ (if_pos h)

/-- The door opens (R93). -/
theorem exec_doorOpened (hl : s.out.locked = false) (hd : s.ovr.doorState = .shut) :
    exec .doorOpened s = .next ((handDemand .ring 0 (takeDoor .opened s)).withOvr
      { (handDemand .ring 0 (takeDoor .opened s)).ovr with ovenFan := false, lamp := true }) :=
  congrArg _ (if_neg (by simp [hl, hd]))

/-- The door closes (R94). -/
theorem exec_doorClosed (hl : s.out.locked = false) (hd : s.ovr.doorState = .opened) :
    exec .doorClosed s = .next (refreshOven (takeDoor .shut s)) := congrArg _ (if_neg (by simp [hl, hd]))

/-- With the door shut the fan and the lamp follow the bake alone (R95, R96). -/
theorem refreshOven_takeDoor_shut (s : State) :
    refreshOven (takeDoor .shut s) = (s.withPins { s.pins with door := .shut }).withOvr { s.ovr with
      doorState := .shut, doorDebounce := none
      ovenFan := bakeRunning s && s.ovr.fanMark, lamp := bakeRunning s } := by
  have hfan : ovenFanValue (takeDoor .shut s) = (bakeRunning s && s.ovr.fanMark) := Bool.and_true _
  have hlamp : lampValue (takeDoor .shut s) = bakeRunning s := Bool.or_false _
  rw [refreshOven, hfan, hlamp]
  rfl

end

/-- Settles O44: each report by what stands of LOCKED and of the door state. -/
theorem doorIsFollowed : Obligations.DoorIsFollowed := by
  intro s bakes pin
  refine ⟨fun level => ⟨exec_doorInputChange_same, fun hmoved => ⟨fun hl => ?_, fun hl => ?_⟩⟩,
    fun hl => ⟨exec_doorOpened_idle (.inl hl), exec_doorClosed_idle (.inl hl)⟩,
    fun hl => ⟨fun hd => ⟨exec_doorOpened_idle (.inr hd), ?_⟩,
      fun hd => ⟨exec_doorClosed_idle (.inr hd), ?_⟩⟩⟩
  · rw [exec_doorInputChange_moved hmoved, if_pos hl]
    rfl
  · rw [exec_doorInputChange_moved hmoved, if_neg (by simp [hl])]
    rfl
  · rw [exec_doorClosed hl hd, refreshOven_takeDoor_shut]
    rfl
  · exact exec_doorOpened hl hd

end Sys2Proof.Proofs
end

section
/-! The spark generator and the flames (R106 to R118): the grant, what a change of a flame sense does, and
what each timer of a burner leads to. -/

namespace Sys2Proof.Proofs

open Sys2Proof Sys2Proof.Machine Sys2Proof.Claims

/-! ## The grant -/

section

variable {n : Burner} {s : State}

/-- Nothing is granted while the generator is owned or rests, or when no burner waits (R107). -/
theorem grantCheck_waits (h : s.bsv.owner ≠ none ∨ s.bsv.rest ≠ none ∨ s.bsv.queue = []) :
    grantCheck s = s := by
  unfold grantCheck
  split
  next howner hrest hqueue => simp [howner, hrest, hqueue] at h
  next => rfl

/-- The head of the queue takes the free and rested generator; the hold that opens freezes the others (R107,
R116). -/
theorem grantCheck_grants {others : List Burner} (howner : s.bsv.owner = none)
    (hrest : s.bsv.rest = none) (hqueue : s.bsv.queue = n :: others)
    (hst : (s.burner n).state = .queued) :
    grantCheck s = (s.withBsv { s.bsv with
        burners := s.bsv.burners.map (fun _ b => freezeFlame b)
        queue := others, owner := some n, hold := .run }).setBurner n
      { s.burner n with
        state := .igniting, attemptTimer := some 4000
        proving := if s.pins.flame.get n then some 0 else none } := by
  have hkept : (s.bsv.burners.map (fun _ b => freezeFlame b)).get n = s.burner n := by
    rw [PerBurner.get_map]
    change freezeFlame (s.burner n) = s.burner n
    unfold freezeFlame
    rw [hst]
  unfold grantCheck
  rw [howner, hrest, hqueue]
  simp only [State.burner, State.withBsv_bsv, hkept, State.withBsv_pins]
  rfl

/-! ## The rest timer and the retry gap -/

theorem exec_restTimerExpiry {k : Nat} (h : s.bsv.rest = some k) :
    exec .restTimerExpiry s = .next (grantCheck (s.withBsv { s.bsv with rest := none })) :=
  congrArg _ (if_pos (by simp [h]))

theorem exec_restTimerExpiry_stopped (h : s.bsv.rest = none) : exec .restTimerExpiry s = .next s :=
  congrArg _ (if_neg (by simp [h]))

theorem exec_retryGapExpiry {k : Nat} (hst : (s.burner n).state = .retryGap)
    (hgap : (s.burner n).gap = some k) : exec (.retryGapExpiry n) s = .next (joinQueue n s) :=
  congrArg _ (if_pos ⟨hst, by simp [hgap]⟩)

theorem exec_retryGapExpiry_stopped (h : (s.burner n).state ≠ .retryGap ∨ (s.burner n).gap = none) :
    exec (.retryGapExpiry n) s = .next s :=
  congrArg _ (if_neg (by rintro ⟨hst, hgap⟩; obtain h | h := h <;> simp_all))

end

/-- Settles O46: the grant by what stands of the generator and the queue, each timer by whether it runs. -/
theorem generatorIsGrantedInTurn : Obligations.GeneratorIsGrantedInTurn := fun _ =>
  ⟨grantCheck_waits, fun _ _ howner hrest hqueue hst => grantCheck_grants howner hrest hqueue hst,
    fun _ => exec_restTimerExpiry, exec_restTimerExpiry_stopped,
    fun _ => ⟨fun _ => exec_retryGapExpiry, exec_retryGapExpiry_stopped⟩⟩

/-! ## The flame senses -/

section

variable (n : Burner) (s : State)

theorem setBurner_self : s.setBurner n (s.burner n) = s := by
  rw [State.setBurner, State.burner, PerBurner.set_get_self]
  rfl

/-- A sense is followed by the proving timer of an IGNITING burner and by the running flame-loss timer of a
BURNING one (R110, R114). -/
theorem setBurner_senseFlame (shown : Bool) : s.setBurner n (senseFlame shown (s.burner n)) =
    match (s.burner n).state, (s.burner n).flameLoss with
    | .igniting, _ => s.setBurner n { s.burner n with
        proving := if shown then some ((s.burner n).proving.getD 0) else none }
    | .burning, .running _ =>
      if shown then s.setBurner n { s.burner n with flameLoss := .running 0 } else s
    | _, _ => s := by
  have hself := setBurner_self n s
  cases hst : (s.burner n).state <;> simp only [senseFlame, hst, hself]
  case burning =>
    cases hloss : (s.burner n).flameLoss <;> simp only [hself]
    cases shown
    · exact hself
    · simp only [if_true]

/-- The lost flame (R115): to RETRY-GAP, or to LOCKOUT at the fourth loss. -/
theorem loseFlame_eq : loseFlame n s =
    if 4 ≤ (s.burner n).losses + 1 then
      raise (burnerNotice n 1 2) (raise (burnerNotice n 2 ((s.burner n).losses + 1))
        (s.setBurner n { s.burner n with
          flameLoss := .stopped, losses := (s.burner n).losses + 1, state := .lockout }))
    else raise (burnerNotice n 2 ((s.burner n).losses + 1))
      (s.setBurner n { s.burner n with
        flameLoss := .stopped, losses := (s.burner n).losses + 1, state := .retryGap
        gap := some 2000 }) := rfl

/-- The failed attempt (R111): to RETRY-GAP, or to LOCKOUT at the third attempt. -/
theorem failAttempt_eq : failAttempt n s =
    if 3 ≤ (s.burner n).attempts + 1 then
      raise (burnerNotice n 1 1) ((releaseGenerator s).setBurner n { s.burner n with
        attemptTimer := none, proving := none, attempts := (s.burner n).attempts + 1
        state := .lockout })
    else (releaseGenerator s).setBurner n { s.burner n with
      attemptTimer := none, proving := none, attempts := (s.burner n).attempts + 1
      state := .retryGap, gap := some 2000 } := rfl

/-- The end of the hold at one burner (R116, R118): a run of 1,000 ms or more with no flame is a loss. -/
theorem thawFlame_eq : thawFlame n s =
    match (s.burner n).state, (s.burner n).flameLoss with
    | .burning, .frozen run =>
      if s.pins.flame.get n then s.setBurner n { s.burner n with flameLoss := .running 0 }
      else if run < 1000 then s.setBurner n { s.burner n with flameLoss := .running run }
      else loseFlame n s
    | _, _ => s := by
  unfold thawFlame
  cases (s.burner n).state <;> try rfl
  case burning =>
    cases (s.burner n).flameLoss <;> try rfl
    next run => simp only [← Nat.not_lt (a := run), ite_not]

/-! ## The flame timers -/

variable {n : Burner} {s : State}

theorem exec_flameProven {k : Nat} (hst : (s.burner n).state = .igniting)
    (hproving : (s.burner n).proving = some k) : exec (.flameProven n) s = .next (proveFlame n s) :=
  congrArg _ (if_pos ⟨hst, by simp [hproving]⟩)

theorem exec_flameProven_stopped (h : (s.burner n).state ≠ .igniting ∨ (s.burner n).proving = none) :
    exec (.flameProven n) s = .next s :=
  congrArg _ (if_neg (by rintro ⟨hst, hproving⟩; obtain h | h := h <;> simp_all))

theorem exec_attemptFailed {k : Nat} (hst : (s.burner n).state = .igniting)
    (htimer : (s.burner n).attemptTimer = some k) :
    exec (.attemptFailed n) s = .next (failAttempt n s) :=
  congrArg _ (if_pos ⟨hst, by simp [htimer]⟩)

theorem exec_attemptFailed_stopped
    (h : (s.burner n).state ≠ .igniting ∨ (s.burner n).attemptTimer = none) :
    exec (.attemptFailed n) s = .next s :=
  congrArg _ (if_neg (by rintro ⟨hst, htimer⟩; obtain h | h := h <;> simp_all))

theorem exec_flameLost (h : lossCounts n s = true) : exec (.flameLost n) s = .next (loseFlame n s) :=
  congrArg _ (if_pos h)

theorem exec_flameLost_stopped (h : ¬ lossCounts n s = true) : exec (.flameLost n) s = .next s :=
  congrArg _ (if_neg h)

theorem exec_holdTailEnd {k : Nat} (h : s.bsv.hold = .tail k) :
    exec .holdTailEnd s = .next
      (allBurners.foldl (fun t n => thawFlame n t) (s.withBsv { s.bsv with hold := .closed })) := by
  change execHoldTailEnd s = _
  rw [execHoldTailEnd, h]

theorem exec_holdTailEnd_stopped (h : ∀ k, s.bsv.hold ≠ .tail k) : exec .holdTailEnd s = .next s := by
  change execHoldTailEnd s = _
  unfold execHoldTailEnd
  split
  next k hk => exact absurd hk (h k)
  all_goals rfl

end

/-- Two folds agree while something stands that both steps need and the first keeps. -/
theorem foldl_congr_of_keeps {σ α : Type} {P : σ → Prop} {f g : σ → α → σ}
    (hfg : ∀ s a, P s → f s a = g s a) (hf : ∀ s a, P s → P (f s a)) (l : List α) {s : σ} (hs : P s) :
    l.foldl f s = l.foldl g s := by
  induction l generalizing s with
  | nil => rfl
  | cons a l ih => rw [List.foldl_cons, List.foldl_cons, ih (hf s a hs), hfg s a hs]

/-- Settles O47: the sense by setBurner_senseFlame, each timer by whether it runs, the end of the hold
burner by burner. -/
theorem flamesAreProvenAndWatched : Obligations.FlamesAreProvenAndWatched := by
  intro n s b released notice lose
  have hlose (m : Burner) (t : State) : loseFlame m t = lose m t := loseFlame_eq m t
  refine ⟨fun shown => ?sense, fun k => exec_flameProven, exec_flameProven_stopped,
    fun k hst htimer => ?failed, exec_attemptFailed_stopped, fun k hst hrun hdark => ?lost,
    fun h => exec_flameLost_stopped fun hcounts => ?kept, fun k hk => ?tail, exec_holdTailEnd_stopped⟩
  case sense =>
    change execFlameSenseChange n shown s = _
    unfold execFlameSenseChange
    simp only [setBurner_senseFlame] <;> rfl
  case failed => exact (exec_attemptFailed hst htimer).trans (congrArg _ (failAttempt_eq n s))
  case lost =>
    rw [exec_flameLost ((lossCounts_iff n s).2 ⟨hst, ⟨k, hrun⟩, hdark⟩), hlose]
  case kept =>
    obtain ⟨hst, ⟨k, hrun⟩, hdark⟩ := (lossCounts_iff n s).1 hcounts
    obtain h | h | h := h
    · exact h hst
    · rw [hdark] at h; cases h
    · exact h k hrun
  case tail =>
    rw [exec_holdTailEnd hk]
    refine congrArg _ (foldl_congr_of_keeps (P := fun t => t.pins = s.pins) (fun t m ht => ?_)
      (fun t m ht => by simp [ht]) allBurners rfl)
    rw [thawFlame_eq, hlose, ht] <;> rfl

end Sys2Proof.Proofs
end

section
/-! The order of the burners (R103, R106, R108): what one burner's move between states keeps, and the
supervisor's operations. -/

namespace Sys2Proof.Proofs

open Sys2Proof Sys2Proof.Machine Sys2Proof.Claims Sys2Proof.Safety

/-! ## What keeps the order -/

/-- From s to t the burners, the ignition queue and the generator's owner stay in agreement. -/
def KeepsBurners (s t : State) : Prop := BurnerInv s → BurnerInv t

namespace KeepsBurners

variable {s t u : State}

/-- What leaves every state and knob, the queue and the owner alone keeps the order. -/
theorem of_records (hstate : ∀ m, (t.burner m).state = (s.burner m).state)
    (hknob : ∀ m, (t.burner m).knob = (s.burner m).knob) (hqueue : t.bsv.queue = s.bsv.queue)
    (howner : t.bsv.owner = s.bsv.owner) : KeepsBurners s t := fun hs =>
  { off := fun m => by rw [hstate, hknob]; exact hs.off m
    distinct := by rw [hqueue]; exact hs.distinct
    queued := fun m => by rw [hqueue, hstate]; exact hs.queued m
    owner := fun m => by rw [howner, hstate]; exact hs.owner m }

theorem of_bsv (h : t.bsv = s.bsv) : KeepsBurners s t :=
  of_records (fun _ => by rw [State.burner, h]; rfl) (fun _ => by rw [State.burner, h]; rfl)
    (by rw [h]) (by rw [h])

theorem refl (s : State) : KeepsBurners s s := id

/-- The last operation first, then what came before it. -/
theorem after (k : KeepsBurners t u) (h : KeepsBurners s t) : KeepsBurners s u := k ∘ h

theorem foldl {α : Type} {f : State → α → State} (hf : ∀ s a, KeepsBurners s (f s a)) (l : List α)
    (s : State) : KeepsBurners s (l.foldl f s) := by
  induction l generalizing s with
  | nil => exact refl s
  | cons a l ih => exact (ih _).after (hf s a)

/-- A command that acts where some condition holds, and else leaves the state as it was. -/
theorem ite {p : Prop} [Decidable p] (h : p → KeepsBurners s t) :
    KeepsBurners s (if p then t else s) := by
  split
  next hp => exact h hp
  next => exact refl s

/-- A change of one burner's record apart from its state and its knob. -/
theorem setBurner {n : Burner} {b : BurnerRec} (hstate : b.state = (s.burner n).state)
    (hknob : b.knob = (s.burner n).knob) : KeepsBurners s (s.setBurner n b) := by
  refine of_records (fun m => ?_) (fun m => ?_) rfl rfl <;> rw [State.setBurner_burner] <;> split
  next hm => rw [hstate, hm]
  next => rfl
  next hm => rw [hknob, hm]
  next => rfl

end KeepsBurners

/-! ## The move of one burner -/

/-- From s to t burner n alone moves, to a place in the queue and at the generator that fits its new
state. -/
structure Moves (n : Burner) (s t : State) : Prop where
  off : (t.burner n).state = .off ↔ (t.burner n).knob = .closed
  queued : n ∈ t.bsv.queue ↔ (t.burner n).state = .queued
  owner : t.bsv.owner = some n ↔ (t.burner n).state = .igniting
  distinct : t.bsv.queue.Nodup
  states : ∀ m, m ≠ n → (t.burner m).state = (s.burner m).state
  knobs : ∀ m, m ≠ n → (t.burner m).knob = (s.burner m).knob
  queue : ∀ m, m ≠ n → (m ∈ t.bsv.queue ↔ m ∈ s.bsv.queue)
  owners : ∀ m, m ≠ n → (t.bsv.owner = some m ↔ s.bsv.owner = some m)

theorem Moves.inv {n : Burner} {s t : State} (h : Moves n s t) (hs : BurnerInv s) : BurnerInv t where
  off m := by
    by_cases hm : m = n
    · exact hm ▸ h.off
    · rw [h.states m hm, h.knobs m hm]; exact hs.off m
  distinct := h.distinct
  queued m := by
    by_cases hm : m = n
    · exact hm ▸ h.queued
    · rw [h.queue m hm, h.states m hm]; exact hs.queued m
  owner m := by
    by_cases hm : m = n
    · exact hm ▸ h.owner
    · rw [h.owners m hm, h.states m hm]; exact hs.owner m

section

variable {n : Burner} {s : State} (hs : BurnerInv s)
include hs

/-- A burner that stays out of OFF keeps its knob open. -/
theorem off_iff_of_active {b : BurnerRec} (hst : (s.burner n).state ≠ .off) (hb : b.state ≠ .off)
    (hk : b.knob = (s.burner n).knob) : b.state = .off ↔ b.knob = .closed :=
  iff_of_false hb fun hc => hst ((hs.off n).2 (hk ▸ hc))

/-- A burner leaves the queue and the generator for a state that needs neither. -/
theorem leaves_burners {b : BurnerRec} (hoff : b.state = .off ↔ b.knob = .closed)
    (hqueued : b.state ≠ .queued) (higniting : b.state ≠ .igniting) :
    BurnerInv ((s.withBsv (left n s.bsv)).setBurner n b) := by
  refine Moves.inv (n := n) ?_ hs
  have hothers (m : Burner) (hm : m ≠ n) :
      ((s.withBsv (left n s.bsv)).setBurner n b).burner m = s.burner m :=
    State.setBurner_burner_of_ne _ _ hm
  exact
    { off := by rw [State.setBurner_burner_self]; exact hoff
      queued := by simp [left, hqueued]
      owner := by
        rw [State.setBurner_burner_self]
        refine iff_of_false (fun ho => ?_) higniting
        simp only [left, State.setBurner_bsv_owner, State.withBsv_bsv] at ho
        split at ho
        next => cases ho
        next hne => exact hne ho
      distinct := hs.distinct.filter _
      states := fun m hm => by rw [hothers m hm]
      knobs := fun m hm => by rw [hothers m hm]
      queue := fun m hm => by simp [left, hm]
      owners := fun m hm => by
        simp only [left, State.setBurner_bsv_owner, State.withBsv_bsv]
        split
        next ho => simp [ho, Ne.symm hm]
        next => rfl }

/-- A burner outside the queue and the generator has nothing to leave. -/
theorem left_of_idle (hqueued : (s.burner n).state ≠ .queued) (higniting : (s.burner n).state ≠ .igniting) :
    left n s.bsv = s.bsv := by
  have hqueue : s.bsv.queue.filter (fun m => decide (m ≠ n)) = s.bsv.queue :=
    List.filter_eq_self.2 fun m hm => decide_eq_true fun h => hqueued ((hs.queued n).1 (h ▸ hm))
  have howner : ¬ s.bsv.owner = some n := fun h => higniting ((hs.owner n).1 h)
  simp only [left, hqueue, if_neg howner]

/-- The IGNITING burner leaves the generator alone. -/
theorem left_of_igniting (hst : (s.burner n).state = .igniting) :
    left n s.bsv = { s.bsv with owner := none, rest := some 500, hold := .tail 300 } := by
  have hqueue : s.bsv.queue.filter (fun m => decide (m ≠ n)) = s.bsv.queue :=
    List.filter_eq_self.2 fun m hm => decide_eq_true fun h => by
      have hqueued := (hs.queued n).1 (h ▸ hm)
      rw [hst] at hqueued
      cases hqueued
  have howner : s.bsv.owner = some n := (hs.owner n).2 hst
  simp only [left, hqueue, if_pos howner]

/-- A move between states that need neither the queue nor the generator. -/
theorem setBurner_burners {b : BurnerRec} (hwas : (s.burner n).state ≠ .queued)
    (hwas' : (s.burner n).state ≠ .igniting) (hoff : b.state = .off ↔ b.knob = .closed)
    (hqueued : b.state ≠ .queued) (higniting : b.state ≠ .igniting) :
    BurnerInv (s.setBurner n b) := by
  have h := leaves_burners (n := n) hs hoff hqueued higniting
  rwa [left_of_idle hs hwas hwas', State.withBsv_self] at h

/-- The IGNITING burner releases the generator (R108). -/
theorem releaseGenerator_burners {b : BurnerRec} (hst : (s.burner n).state = .igniting)
    (hb : b.state ≠ .off) (hqueued : b.state ≠ .queued) (higniting : b.state ≠ .igniting)
    (hk : b.knob = (s.burner n).knob) : BurnerInv ((releaseGenerator s).setBurner n b) := by
  have hoff := off_iff_of_active hs (by simp [hst]) hb hk
  have h := leaves_burners (n := n) hs hoff hqueued higniting
  rwa [left_of_igniting hs hst] at h

/-- A burner joins the tail of the queue. -/
theorem queues_burners {b : BurnerRec} (hwas : (s.burner n).state ≠ .queued)
    (hwas' : (s.burner n).state ≠ .igniting) (hb : b.state = .queued) (hk : b.knob = .opened) :
    BurnerInv ((s.withBsv { s.bsv with queue := s.bsv.queue ++ [n] }).setBurner n b) := by
  refine Moves.inv (n := n) ?_ hs
  have hothers (m : Burner) (hm : m ≠ n) : ((s.withBsv
      { s.bsv with queue := s.bsv.queue ++ [n] }).setBurner n b).burner m = s.burner m :=
    State.setBurner_burner_of_ne _ _ hm
  have hnotin : n ∉ s.bsv.queue := fun h => hwas ((hs.queued n).1 h)
  exact
    { off := by rw [State.setBurner_burner_self, hb, hk]; simp
      queued := by simp [hb]
      owner := by
        rw [State.setBurner_burner_self, hb]
        exact iff_of_false (fun h => hwas' ((hs.owner n).1 h)) (by simp)
      distinct := by simpa using hs.distinct.concat hnotin
      states := fun m hm => by rw [hothers m hm]
      knobs := fun m hm => by rw [hothers m hm]
      queue := fun m hm => by simp [hm]
      owners := fun m hm => Iff.rfl }

/-- The head of the queue takes the generator (R107). -/
theorem grantCheck_burners : BurnerInv (grantCheck s) := by
  by_cases hwaits : s.bsv.owner ≠ none ∨ s.bsv.rest ≠ none ∨ s.bsv.queue = []
  · rwa [grantCheck_waits hwaits]
  · simp only [not_or, not_not] at hwaits
    obtain ⟨howner, hrest, hqueue⟩ := hwaits
    obtain ⟨n, others, hqueue⟩ := List.exists_cons_of_ne_nil hqueue
    have hst : (s.burner n).state = .queued := (hs.queued n).1 (by simp [hqueue])
    obtain ⟨hnotin, hdistinct⟩ := List.nodup_cons.1 (hqueue ▸ hs.distinct)
    rw [grantCheck_grants howner hrest hqueue hst]
    refine Moves.inv (n := n) ?_ hs
    have hfrozen (b : BurnerRec) : (freezeFlame b).state = b.state ∧ (freezeFlame b).knob = b.knob := by
      unfold freezeFlame; split <;> exact ⟨rfl, rfl⟩
    have hothers (x : Bsv) (hx : x.burners = s.bsv.burners.map (fun _ b => freezeFlame b))
        (r : BurnerRec) (m : Burner) (hm : m ≠ n) :
        ((s.withBsv x).setBurner n r).burner m = freezeFlame (s.burner m) := by
      rw [State.setBurner_burner_of_ne _ _ hm, State.burner, State.withBsv_bsv, hx, PerBurner.get_map]
      rfl
    exact
      { off := by
          rw [State.setBurner_burner_self]
          exact off_iff_of_active hs (by simp [hst]) (by simp) rfl
        queued := by simp [hnotin]
        owner := by simp
        distinct := hdistinct
        states := fun m hm => by rw [hothers _ rfl _ m hm]; exact (hfrozen _).1
        knobs := fun m hm => by rw [hothers _ rfl _ m hm]; exact (hfrozen _).2
        queue := fun m hm => by simp [hqueue, hm]
        owners := fun m hm => by simp [howner, Ne.symm hm] }

end

/-! ## The supervisor's operations -/

section

variable (n : Burner) (s : State)

theorem raise_keepsBurners (x : Notice) : KeepsBurners s (raise x s) := .of_bsv (by simp)

/-- A burner that is shut with its knob open goes to WAIT-CLOSE (R120, R121). -/
theorem shutBurner_burners (hs : BurnerInv s) (h : (s.burner n).state ≠ .off) :
    BurnerInv (shutBurner n .waitClose s) := by
  rw [shutBurner_eq]
  exact leaves_burners hs (off_iff_of_active hs h (by simp [atRest]) rfl) (by simp [atRest])
    (by simp [atRest])

theorem stopBurner_keepsBurners : KeepsBurners s (stopBurner n s) := fun hs => by
  unfold stopBurner
  split
  next => exact hs
  next h => exact shutBurner_burners n s hs h

/-- A withdrawn permit ends the states with gas or ignition to come (R120). -/
theorem withdrawPermit_keepsBurners (cause : PlanEnd) : KeepsBurners s (withdrawPermit n cause s) :=
  fun hs => by
    by_cases h : endsAtWithdrawal (s.burner n).state = true
    · have hactive : (s.burner n).state ≠ .off := fun hoff => by rw [hoff] at h; cases h
      rw [withdrawPermit_ends cause h]
      exact raise_keepsBurners _ _ (leaves_burners hs
        (off_iff_of_active hs hactive (by simp [atRest]) rfl) (by simp [atRest]) (by simp [atRest]))
    · rw [withdrawPermit_keeps cause h]
      exact KeepsBurners.setBurner rfl rfl hs

theorem syncPermit_keepsBurners (c : Channel) : KeepsBurners s (syncPermit c n s) := by
  unfold syncPermit
  split
  · exact withdrawPermit_keepsBurners n s _
  · exact .setBurner rfl rfl
  · exact .refl s

variable {n s}

theorem joinQueue_burners (hs : BurnerInv s) (h : (s.burner n).state = .retryGap) :
    BurnerInv (joinQueue n s) := by
  have hopened : (s.burner n).knob = .opened := by
    cases hk : (s.burner n).knob
    case opened => rfl
    case closed => have hoff := (hs.off n).2 hk; rw [h] at hoff; cases hoff
  exact grantCheck_burners (queues_burners hs (by simp [h]) (by simp [h]) rfl hopened)

/-- A closed knob opens: the burner is OFF, and queues or waits for the knob to close (R104). -/
theorem openKnob_burners (hs : BurnerInv s) (h : (s.burner n).knob = .closed) :
    BurnerInv (openKnob n s) := by
  have hoff : (s.burner n).state = .off := (hs.off n).2 h
  cases hp : (s.burner n).permit
  case true =>
    rw [openKnob_queues hp]
    exact grantCheck_burners (queues_burners hs (by simp [hoff]) (by simp [hoff]) rfl rfl)
  case false =>
    rw [openKnob_waits hp]
    exact setBurner_burners hs (by simp [hoff]) (by simp [hoff]) (by simp) (by simp) (by simp)

theorem closeKnob_keepsBurners : KeepsBurners s (closeKnob n s) := fun hs => by
  rw [closeKnob_eq]
  exact leaves_burners hs (iff_of_true rfl rfl) (by simp [atRest]) (by simp [atRest])

theorem proveFlame_burners (hs : BurnerInv s) (h : (s.burner n).state = .igniting) :
    BurnerInv (proveFlame n s) :=
  releaseGenerator_burners hs h (by simp) (by simp) (by simp) rfl

theorem failAttempt_burners (hs : BurnerInv s) (h : (s.burner n).state = .igniting) :
    BurnerInv (failAttempt n s) := by
  rw [failAttempt_eq]
  split
  · exact raise_keepsBurners _ _ (releaseGenerator_burners hs h (by simp) (by simp) (by simp) rfl)
  · exact releaseGenerator_burners hs h (by simp) (by simp) (by simp) rfl

theorem loseFlame_burners (hs : BurnerInv s) (h : (s.burner n).state = .burning) :
    BurnerInv (loseFlame n s) := by
  have hmoved {b : BurnerRec} (hb : b.state ≠ .off) (hqueued : b.state ≠ .queued)
      (higniting : b.state ≠ .igniting) (hk : b.knob = (s.burner n).knob) :
      BurnerInv (s.setBurner n b) :=
    setBurner_burners hs (by simp [h]) (by simp [h]) (off_iff_of_active hs (by simp [h]) hb hk)
      hqueued higniting
  rw [loseFlame_eq]
  split
  · exact raise_keepsBurners _ _ (raise_keepsBurners _ _
      (hmoved (by simp) (by simp) (by simp) rfl))
  · exact raise_keepsBurners _ _ (hmoved (by simp) (by simp) (by simp) rfl)

theorem thawFlame_keepsBurners : KeepsBurners s (thawFlame n s) := by
  rw [thawFlame_eq]
  split
  next hst _ =>
    split_ifs
    · exact .setBurner rfl rfl
    · exact .setBurner rfl rfl
    · exact fun hs => loseFlame_burners hs hst
  next => exact .refl s

theorem senseFlame_keepsBurners (shown : Bool) :
    KeepsBurners s (s.setBurner n (senseFlame shown (s.burner n))) := by
  rw [setBurner_senseFlame]
  split
  · exact .setBurner rfl rfl
  · exact .ite fun _ => .setBurner rfl rfl
  · exact .refl s

/-- In LOCKED each burner is OFF or WAIT-CLOSE by its knob, and nothing waits (R125). -/
theorem lockSupervisor_burners (s : State) : BurnerInv (lockSupervisor s) := by
  have hrecord (m : Burner) : (lockSupervisor s).burner m = lockBurner (s.burner m) :=
    PerBurner.get_map _ _ _
  have hstate (b : BurnerRec) : (lockBurner b).knob = b.knob ∧
      (lockBurner b).state = if b.knob = .closed then .off else .waitClose := by
    rw [lockBurner_eq]; exact ⟨rfl, rfl⟩
  refine ⟨fun m => ?_, List.nodup_nil, fun m => ?_, fun m => ?_⟩ <;> rw [hrecord]
  · rw [(hstate _).1, (hstate _).2]; split <;> simp_all
  · rw [(hstate _).2]; split <;> simp [lockSupervisor]
  · rw [(hstate _).2]; split <;> simp [lockSupervisor]

/-- After a reset each burner is OFF or WAIT-CLOSE by its knob (R175). -/
theorem resetBlocks_burners (cause : ResetCause) (s : State) : BurnerInv (resetBlocks cause s) := by
  have hrecord (m : Burner) :
      (resetBlocks cause s).burner m = BurnerRec.reset (s.pins.knob.get m) := by cases m <;> rfl
  refine ⟨fun m => ?_, List.nodup_nil, fun m => ?_, fun m => ?_⟩ <;> rw [hrecord] <;>
    cases s.pins.knob.get m <;> simp [BurnerRec.reset, resetBlocks, Bsv.reset]

/-- A millisecond moves the timers of a burner alone. -/
theorem advance_keepsBurners (s : State) : KeepsBurners s (advance s) := by
  have hrecord (m : Burner) : (advance s).burner m = (s.burner m).tick (lossCounts m s) :=
    PerBurner.get_map _ _ _
  exact .of_records (fun m => by rw [hrecord]; rfl) (fun m => by rw [hrecord]; rfl) rfl rfl

end

end Sys2Proof.Proofs
end

section
/-! The order of the burners (R103, R106, R108): the channels, the events, the link and the commands. Only
the permits and STOP ALL reach the burners from outside the supervisor, and the electric channels never
do. -/

namespace Sys2Proof.Proofs

open Sys2Proof Sys2Proof.Machine Sys2Proof.Claims Sys2Proof.Safety

/-! ## What leaves BSV alone -/

section

variable {c : Channel} (s : State)

theorem sync_bsv (hc : isElectric c = true) : (sync c s).bsv = s.bsv := (sync_electric_keeps hc s).1

theorem targetCheck_bsv : (targetCheck s).bsv = s.bsv := by
  have hov (t : State) : (sync .ov t).bsv = t.bsv := sync_bsv t rfl
  unfold targetCheck
  dsimp only
  repeat' split
  all_goals simp [hov]

theorem setSetpoint_bsv (mode : Mode) (t : Nat) : (setSetpoint mode t s).bsv = s.bsv := by
  unfold setSetpoint
  simp only [targetCheck_bsv, overshootCut_frame]
  split <;> simp

theorem reportFault_bsv (hc : isElectric c = true) (cause : HaltCause) :
    (reportFault c cause s).bsv = s.bsv := by
  unfold reportFault
  split
  · rw [sync_bsv _ hc]; simp
  · rfl

theorem boostSwitch_bsv : (boostSwitch s).bsv = s.bsv := by
  have hov (t : State) : (reportFault .ov .element t).bsv = t.bsv := reportFault_bsv t rfl _
  unfold boostSwitch
  dsimp only
  repeat' split
  all_goals simp [hov]

theorem frameEvent_bsv : (frameEvent s).bsv = s.bsv := by
  simp [frameEvent, frameOven, foldl_keeps (g := State.bsv), boostSwitch_bsv]

theorem findFailed_bsv (h : Heater) : (findFailed h s).bsv = s.bsv := by
  have hz1 (t : State) : (reportFault .z1 .element t).bsv = t.bsv := reportFault_bsv t rfl _
  have hz2 (t : State) : (reportFault .z2 .element t).bsv = t.bsv := reportFault_bsv t rfl _
  have hov (t : State) : (reportFault .ov .element t).bsv = t.bsv := reportFault_bsv t rfl _
  have hgr (t : State) : (reportFault .gr .element t).bsv = t.bsv := reportFault_bsv t rfl _
  unfold findFailed
  cases h
  case hz1 => simp [hz1]
  case hz2 => simp [hz2]
  case hgrill => simp [hgr]
  all_goals
    dsimp only
    repeat' split
    all_goals simp [hov]

theorem findWelded_bsv (h : Heater) (also : List Heater) : (findWelded h also s).bsv = s.bsv := by
  have hreported (t : State) :
      ([Channel.z1, .z2, .ov, .gr].foldl (fun t c => reportFault c .supply t) t).bsv = t.bsv := by
    obtain ⟨-, -, -, hbsv, -⟩ := supplyReported_keeps t
    rwa [supplyReported] at hbsv
  unfold findWelded
  dsimp only
  simp only [settleAll_frame, State.withOut_bsv, hreported, raise_frame, holdSupply_frame]
  simp [foldl_keeps (g := State.bsv)]

theorem loseLink_bsv : (loseLink s).bsv = s.bsv := by
  rw [loseLink_eq, linkSilenced]
  simp [linkPaused_keeps]

theorem validReading_bsv (t : Nat) : (validReading t s).bsv = s.bsv := by
  unfold validReading
  simp only [evalCoolingFanAtReading_frame, overshootCut_frame, targetCheck_bsv]
  split <;> simp

theorem invalidReading_bsv : (invalidReading s).bsv = s.bsv := by
  unfold invalidReading
  dsimp only
  split
  · rw [reportFault_bsv _ rfl]; simp
  · rfl

theorem answerRequest_bsv (r : Request) (a : Answered) : (answerRequest r a).bsv = a.state.bsv := by
  unfold answerRequest clearReported; split <;> rfl

theorem restartSupervision_bsv : (restartSupervision s).bsv = s.bsv := by
  unfold restartSupervision; split <;> rfl

theorem abandonFrame_bsv : (abandonFrame s).bsv = s.bsv := by unfold abandonFrame; split <;> rfl

theorem addressChar_bsv (a : Byte) : (addressChar a s).bsv = s.bsv := by
  unfold addressChar
  dsimp only
  split_ifs <;> exact abandonFrame_bsv s

theorem startReply_bsv : (startReply s).bsv = s.bsv := by unfold startReply; split <;> rfl

end

/-! ## The channels -/

section

variable (c : Channel) (s : State)

theorem sync_keepsBurners : KeepsBurners s (sync c s) := by
  obtain ⟨n, hn, -⟩ | rfl | ⟨-, -, -, he⟩ := channel_kinds c
  · rw [sync_of_burner hn]; exact syncPermit_keepsBurners n s c
  · exact .of_bsv (sync_bsv s rfl)
  · exact .of_bsv (sync_bsv s he)

/-- An operation on a channel that leaves BSV alone, and the end of its event. -/
theorem sync_keepsBurners_of_bsv {t : State} (h : t.bsv = s.bsv) : KeepsBurners s (sync c t) :=
  (sync_keepsBurners c t).after (.of_bsv h)

theorem pauseChannel_keepsBurners : KeepsBurners s (pauseChannel c s) :=
  sync_keepsBurners_of_bsv c s rfl

theorem resumeChannel_keepsBurners : KeepsBurners s (resumeChannel c s) := by
  unfold resumeChannel
  refine sync_keepsBurners_of_bsv c s ?_
  split
  · rw [targetCheck_bsv]; rfl
  · rfl

theorem runFromStart_keepsBurners : KeepsBurners s (runFromStart c s) :=
  sync_keepsBurners_of_bsv c s (by simp)

theorem expirePause_keepsBurners : KeepsBurners s (expirePause c s) :=
  sync_keepsBurners_of_bsv c s (by simp)

theorem advanceSegment_keepsBurners (left : Nat) : KeepsBurners s (advanceSegment c left s) := by
  unfold advanceSegment
  dsimp only
  split
  · split
    · exact .ite fun _ => sync_keepsBurners_of_bsv c s rfl
    all_goals exact .refl s
  · exact .refl s

theorem channelTick_keepsBurners : KeepsBurners s (channelTick c s) := by
  unfold channelTick
  split
  · exact .refl s
  · dsimp only
    split
    · exact sync_keepsBurners_of_bsv c s (by simp)
    · exact (advanceSegment_keepsBurners c _ _).after (.of_bsv rfl)

theorem emptyChannel_keepsBurners : KeepsBurners s (emptyChannel c s) :=
  sync_keepsBurners_of_bsv c s (by simp)

theorem reportClosing_keepsBurners : KeepsBurners s (reportClosing c s) :=
  .ite fun _ => emptyChannel_keepsBurners c s

theorem setLevel_keepsBurners (n : Nat) : KeepsBurners s (setLevel c n s) :=
  sync_keepsBurners_of_bsv c s (by simp)

/-- STOP ALL empties every channel, hands on, and stops every burner (R21, R121). -/
theorem stopEverything_keepsBurners : KeepsBurners s (stopEverything s) := by
  have hemptied : KeepsBurners s (allEmptied s) := .of_bsv (by
    simp [allEmptied, emptyRecords, foldl_keeps (g := State.bsv)])
  rw [stopEverything_eq]
  exact (KeepsBurners.foldl (fun t n => stopBurner_keepsBurners n t) _ _).after
    ((KeepsBurners.foldl (fun t c => sync_keepsBurners c t) _ _).after hemptied)

end

/-! ## The requests and the link -/

/-- What a request's owner leaves keeps the order. -/
theorem OwnerLeaves.burners {s t : State} (h : OwnerLeaves s t) : KeepsBurners s t := by
  cases h with
  | same => exact .refl s
  | configured | loading | timeAdded | cursorSet | noticesTaken => exact .of_bsv rfl
  | configClosed => exact .of_bsv (by unfold ownCloseConfig; split <;> simp [accepted, refused])
  | committed c x plan => exact sync_keepsBurners_of_bsv c s rfl
  | started c => exact runFromStart_keepsBurners c s
  | paused c => exact pauseChannel_keepsBurners c s
  | resumed c => exact resumeChannel_keepsBurners c s
  | skipped c => exact sync_keepsBurners_of_bsv c s (by simp)
  | emptied c => exact emptyChannel_keepsBurners c s
  | levelSet c n => exact setLevel_keepsBurners c s n
  | setpointSet m t => exact .of_bsv (setSetpoint_bsv s m t)
  | quickRun c n => exact (runFromStart_keepsBurners c _).after (.of_bsv rfl)
  | allStopped => exact stopEverything_keepsBurners s
  | noticesTakenArmed | armed => exact .of_bsv (by simp)

section

variable (s : State)

theorem takeRequest_keepsBurners (r : Request) : KeepsBurners s (takeRequest r s) := by
  have hdecided := (decideRequest_leaves r s).burners
  unfold takeRequest
  split
  · exact KeepsBurners.after (.of_bsv (answerRequest_bsv r _)) hdecided
  · exact hdecided

theorem placeRequest_keepsBurners (r : Request) : KeepsBurners s (placeRequest r s) := by
  unfold placeRequest
  split
  · exact takeRequest_keepsBurners s r
  all_goals exact .of_bsv rfl

theorem acceptFrame_keepsBurners (r : Request) : KeepsBurners s (acceptFrame r s) := by
  have hheard : KeepsBurners s (restartSupervision s) := .of_bsv (restartSupervision_bsv s)
  have hplaced := (placeRequest_keepsBurners (restartSupervision s) r).after hheard
  unfold acceptFrame
  dsimp only
  split
  · exact hplaced
  · split
    · exact hplaced
    · exact hheard

theorem arriveRequest_keepsBurners (a : FrameAddr) (kind tag : Byte) (body : List Byte) :
    KeepsBurners s (arriveRequest a kind tag body s) := by
  unfold arriveRequest
  dsimp only
  split
  · exact .of_bsv (abandonFrame_bsv s)
  · exact (acceptFrame_keepsBurners _ _).after (.of_bsv (abandonFrame_bsv s))

theorem dataChar_keepsBurners (d : Byte) : KeepsBurners s (dataChar d s) := by
  unfold dataChar completeFrame
  dsimp only
  split
  · exact .refl s
  · exact .refl s
  · split_ifs
    · exact .of_bsv rfl
    · exact (acceptFrame_keepsBurners _ _).after (.of_bsv rfl)
    · exact .of_bsv rfl
    · exact .of_bsv rfl

theorem endReply_keepsBurners : KeepsBurners s (endReply s) := by
  unfold endReply
  split
  · split
    · exact fun _ => resetBlocks_burners .requested s
    · unfold takeWaiting
      split
      · exact .of_bsv rfl
      · exact (takeRequest_keepsBurners _ _).after (.of_bsv rfl)
  all_goals exact .refl s

/-! ## The events -/

/-- A full run locks the part, or finds its heater FAILED or WELDED (R131). -/
theorem runReached_keepsBurners (h : Heater) (also : List Heater) :
    KeepsBurners s (runReached h also s) := by
  unfold runReached
  refine .ite fun _ => ?_
  split
  · exact fun _ => KeepsBurners.of_bsv (s := lockSupervisor s) rfl (lockSupervisor_burners s)
  · split
    · exact .of_bsv (findFailed_bsv s h)
    · exact .of_bsv (findWelded_bsv s h also)

theorem idleStep_keepsBurners : KeepsBurners s (idleStep s) := by
  unfold idleStep
  split
  · exact advance_keepsBurners s
  · exact .of_bsv rfl
  · exact .of_bsv rfl

/-! ## The commands -/

variable {s} {t : State}

theorem pauseTimerSecond_keepsBurners {c : Channel} (h : exec (.pauseTimerSecond c) s = .next t) :
    KeepsBurners s t := by
  cases h
  split
  · exact .refl s
  · split
    · exact expirePause_keepsBurners c s
    · exact .of_bsv rfl

theorem probeReading_keepsBurners {reading : Int} (h : exec (.probeReading reading) s = .next t) :
    KeepsBurners s t := by
  cases h
  dsimp only
  split
  · split
    · exact .of_bsv (validReading_bsv _ _)
    · exact .of_bsv (invalidReading_bsv _)
  · exact .of_bsv rfl

theorem withKnob_keepsBurners (n : Burner) (level : KnobPos) : KeepsBurners s (withKnob n level s) :=
  .of_bsv rfl

theorem knobInputChange_keepsBurners {n : Burner} {level : KnobPos}
    (h : exec (.knobInputChange n level) s = .next t) : KeepsBurners s t := by
  cases h
  split
  · exact .refl s
  · dsimp only
    split
    · exact withKnob_keepsBurners n level
    · exact KeepsBurners.after (.setBurner rfl rfl) (withKnob_keepsBurners n level)

/-- A knob that opens has been closed (R103). -/
theorem knobOpened_keepsBurners {n : Burner} (h : exec (.knobOpened n) s = .next t) :
    KeepsBurners s t := by
  cases h
  split
  next => exact .refl s
  next hacts =>
    have hclosed : (s.burner n).knob = .closed := by
      cases hk : (s.burner n).knob
      case closed => rfl
      case opened => exact absurd (.inr hk) hacts
    exact fun hs => openKnob_burners (withKnob_keepsBurners n .opened hs) hclosed

theorem knobClosed_keepsBurners {n : Burner} (h : exec (.knobClosed n) s = .next t) :
    KeepsBurners s t := by
  cases h
  split
  · exact .refl s
  · exact (reportClosing_keepsBurners _ _).after
      (closeKnob_keepsBurners.after (withKnob_keepsBurners n .closed))

theorem holdTailEnd_keepsBurners (h : exec .holdTailEnd s = .next t) : KeepsBurners s t := by
  have hclosed : KeepsBurners s (s.withBsv { s.bsv with hold := .closed }) :=
    .of_records (fun _ => rfl) (fun _ => rfl) rfl rfl
  cases h
  split
  · exact (KeepsBurners.foldl (fun _ _ => thawFlame_keepsBurners) _ _).after hclosed
  all_goals exact .refl s

/-- The end of the rest makes the grant check (R108). -/
theorem restTimerExpiry_keepsBurners (h : exec .restTimerExpiry s = .next t) : KeepsBurners s t := by
  have hrested : KeepsBurners s (s.withBsv { s.bsv with rest := none }) :=
    .of_records (fun _ => rfl) (fun _ => rfl) rfl rfl
  cases h
  exact .ite fun _ hs => grantCheck_burners (hrested hs)

theorem flameSenseChange_keepsBurners {n : Burner} {shown : Bool}
    (h : exec (.flameSenseChange n shown) s = .next t) : KeepsBurners s t := by
  have hshown : KeepsBurners s (s.withPins { s.pins with flame := s.pins.flame.set n shown }) :=
    .of_bsv rfl
  cases h
  dsimp only
  split
  · exact hshown
  · exact (senseFlame_keepsBurners shown).after hshown

/-- Every command keeps the order. -/
theorem exec_keepsBurners (i : Instr) (h : exec i s = .next t) : KeepsBurners s t := by
  have hrequest {r : Request} (hr : requestFrame i = some r) : KeepsBurners s t := by
    rw [exec_eq_arrive s hr] at h
    cases h
    exact arriveRequest_keepsBurners s _ _ _ _
  cases i
  case powerOnReset => cases h; exact fun _ => resetBlocks_burners .powerOn _
  case addressCharacter a => cases h; exact .of_bsv (addressChar_bsv s a)
  case dataCharacter d => cases h; exact dataChar_keepsBurners s d
  case framingError => cases h; exact .of_bsv (abandonFrame_bsv s)
  case gapTimeout => cases h; exact .ite fun _ => .of_bsv (abandonFrame_bsv s)
  case replyStart => cases h; exact .of_bsv (startReply_bsv s)
  case replySent => cases h; exact endReply_keepsBurners s
  case linkSupervisionExpiry => cases h; exact .ite fun _ => .of_bsv (loseLink_bsv s)
  case loadIdleTimeout => cases h; exact .ite fun _ => .of_bsv rfl
  case channelSecond c =>
    cases h
    exact .ite fun _ => (channelTick_keepsBurners c _).after (.of_bsv rfl)
  case stageElapsed c => cases h; exact .ite fun _ => sync_keepsBurners_of_bsv c s (by simp)
  case pauseTimerSecond => exact pauseTimerSecond_keepsBurners h
  case pauseExpiry c => cases h; exact .ite fun _ => expirePause_keepsBurners c s
  case slotBoundary => cases h; exact .ite fun _ => .of_bsv (by simp)
  case frameBoundary =>
    cases h; split
    · exact .refl s
    · exact .of_bsv (frameEvent_bsv s)
  case probeReading => exact probeReading_keepsBurners h
  case knobInputChange => exact knobInputChange_keepsBurners h
  case knobOpened => exact knobOpened_keepsBurners h
  case knobClosed => exact knobClosed_keepsBurners h
  case restTimerExpiry => exact restTimerExpiry_keepsBurners h
  case flameSenseChange => exact flameSenseChange_keepsBurners h
  case flameProven n => cases h; exact .ite fun hacts hs => proveFlame_burners hs hacts.1
  case attemptFailed n => cases h; exact .ite fun hacts hs => failAttempt_burners hs hacts.1
  case retryGapExpiry n => cases h; exact .ite fun hacts hs => joinQueue_burners hs hacts.1
  case flameLost n =>
    cases h
    exact .ite fun hcounts hs => loseFlame_burners hs ((lossCounts_iff n s).1 hcounts).1
  case holdTailEnd => exact holdTailEnd_keepsBurners h
  case persistenceRunExpiry g also => cases h; exact runReached_keepsBurners s g also
  case doorInputChange | loadSenseChange =>
    cases h
    dsimp only
    repeat' split
    all_goals exact .of_bsv rfl
  case doorOpened | doorClosed | settlingEnd | contactorProvingExpiry | spacingTimerExpiry =>
    cases h
    repeat' split
    all_goals exact .of_bsv (by simp)
  all_goals exact hrequest rfl

end

/-- Settles O55: a command keeps the order, and so does the part's own clock. -/
theorem burnersKeepTheirOrder : Obligations.BurnersKeepTheirOrder := by
  intro s t hs hstep
  unfold step at hstep
  split at hstep
  next c rest _ =>
    have hwaiting : KeepsBurners s (s.withPending rest) := .of_bsv rfl
    exact exec_keepsBurners c hstep (hwaiting hs)
  next => cases hstep; exact idleStep_keepsBurners s hs

end Sys2Proof.Proofs
end

section
/-! LOCKED (R139, R140): what it does not speak of, what keeps it, and the part's own clock in it. -/

namespace Sys2Proof.Proofs

open Sys2Proof Sys2Proof.Machine Sys2Proof.Claims Sys2Proof.Safety

/-! ## What LOCKED does not speak of -/

/-- From s to t only the input lines, the link but for supervision, the flags of the configuration, the
cooling fan's mark (log 35) and the model's own count and queue can change. -/
structure Dormant (s t : State) : Prop where
  part : t.cfg.part = s.cfg.part
  out : t.out = s.out
  pfs : t.pfs = s.pfs
  ovr : t.ovr = { s.ovr with fanJustOff := t.ovr.fanJustOff }
  bsv : t.bsv = s.bsv
  plr : t.plr = s.plr
  pst : t.pst = s.pst
  ntq : t.ntq = s.ntq
  supervision : t.lnk.supervision = s.lnk.supervision

namespace Dormant

variable {s t : State}

theorem refl (s : State) : Dormant s s := ⟨rfl, rfl, rfl, rfl, rfl, rfl, rfl, rfl, rfl⟩

theorem of_eq (h : t = s) : Dormant s t := h ▸ refl s

theorem outputsOff (k : Dormant s t) (h : outputsOff s) : outputsOff t := by
  obtain ⟨hdrive, hcontactor, hvalve, hspark, hselect, hfan, hlamp, hcooling⟩ := h
  refine ⟨fun g => ?_, ?_, fun n => ?_, ?_, ?_, ?_, ?_, ?_⟩
  · rw [State.heaterOut, k.out]; exact hdrive g
  · rw [contactorLine, k.out]; exact hcontactor
  · rw [valve, State.burner, k.bsv]; exact hvalve n
  · rw [sparkEnable, k.bsv]; exact hspark
  · unfold sparkSelect; rw [k.bsv]; exact hselect
  · rw [k.ovr]; exact hfan
  · rw [k.ovr]; exact hlamp
  · rw [k.ovr]; exact hcooling

theorem inv (k : Dormant s t) (hs : LockedInv s) : LockedInv t where
  off h := k.outputsOff (hs.off (k.part ▸ h))
  latch h := by rw [k.out]; exact hs.latch (k.part ▸ h)
  heaters h := by unfold State.heaterOut; rw [k.out]; exact hs.heaters (k.part ▸ h)
  frame h := by unfold State.heater; rw [k.pfs]; exact hs.frame (k.part ▸ h)
  oven h := by rw [k.ovr]; exact hs.oven (k.part ▸ h)
  burners h := by unfold State.burner; rw [k.bsv]; exact hs.burners (k.part ▸ h)
  plans h := by unfold State.chan; rw [k.plr, k.pst]; exact hs.plans (k.part ▸ h)
  notices h := by rw [k.ntq]; exact hs.notices (k.part ▸ h)
  link h := by rw [k.supervision]; exact hs.link (k.part ▸ h)

end Dormant

/-! ## What keeps LOCKED -/

/-- Where the part is not LOCKED there is nothing to keep. -/
theorem lockedInv_of_awake {s : State} (h : s.cfg.part ≠ .locked) : LockedInv s where
  off hl := absurd hl h
  latch hl := absurd hl h
  heaters hl := absurd hl h
  frame hl := absurd hl h
  oven hl := absurd hl h
  burners hl := absurd hl h
  plans hl := absurd hl h
  notices hl := absurd hl h
  link hl := absurd hl h

/-- From s to t the part that is LOCKED stays so, with its outputs off and its timers stopped, and a part
that comes to be LOCKED has them so. -/
def KeepsLocked (s t : State) : Prop :=
  LockedInv s → LockedInv t ∧ (s.cfg.part = .locked → t.cfg.part = .locked)

namespace KeepsLocked

variable {s t u : State}

theorem of_dormant (k : Dormant s t) : KeepsLocked s t := fun hs =>
  ⟨k.inv hs, fun hl => k.part.trans hl⟩

theorem refl (s : State) : KeepsLocked s s := of_dormant (.refl s)

/-- The last operation first, then what came before it. -/
theorem after (k : KeepsLocked t u) (h : KeepsLocked s t) : KeepsLocked s u := fun hs =>
  ⟨(k (h hs).1).1, fun hl => (k (h hs).1).2 ((h hs).2 hl)⟩

/-- A dormant step in LOCKED, and one that does not lead there. -/
theorem of_part (hawake : s.cfg.part ≠ .locked → t.cfg.part ≠ .locked)
    (hlocked : LockedInv s → s.cfg.part = .locked → Dormant s t) : KeepsLocked s t := by
  by_cases hl : s.cfg.part = .locked
  · exact fun hs => of_dormant (hlocked hs hl) hs
  · exact fun _ => ⟨lockedInv_of_awake (hawake hl), fun h => absurd h hl⟩

theorem of_cfg (hcfg : t.cfg = s.cfg)
    (hlocked : LockedInv s → s.cfg.part = .locked → Dormant s t) : KeepsLocked s t :=
  of_part (fun h => by rwa [hcfg]) hlocked

/-- An event whose guard fails in LOCKED. -/
theorem guarded {p : Prop} [Decidable p] (hcfg : t.cfg = s.cfg)
    (hp : LockedInv s → s.cfg.part = .locked → ¬ p) : KeepsLocked s (if p then t else s) :=
  of_cfg (by split; exacts [hcfg, rfl]) fun hs hl => .of_eq (if_neg (hp hs hl))

/-- An event that LOCKED passes over. -/
theorem passed {p : Prop} [Decidable p] (hcfg : t.cfg = s.cfg)
    (hp : LockedInv s → s.cfg.part = .locked → p) : KeepsLocked s (if p then s else t) :=
  of_cfg (by split; exacts [rfl, hcfg]) fun hs hl => .of_eq (if_pos (hp hs hl))

end KeepsLocked

/-! ## No timer runs in LOCKED -/

theorem countDown_stopped {t : Option Nat} (h : t = none) : countDown t = t := by rw [h]; rfl

theorem countUp_stopped {t : Option Nat} (h : t = none) : countUp t = t := by rw [h]; rfl

/-- An IDLE heater disagrees with nothing (R131). -/
theorem agrees_of_idle {s : State} {h : Heater} (hc : (s.heaterOut h).check = .idle) :
    disagrees s h = false := by
  simp [disagrees, hc]

theorem heaterOut_tick_idle {r : HeaterOut} (hc : r.check = .idle) : r.tick false = r := by
  have hcheck : r.check.tick = r.check := by rw [hc]; rfl
  simp only [HeaterOut.tick, hcheck, Bool.false_eq_true, if_false]

theorem burner_tick_at_rest {b : BurnerRec} (hb : BurnerAtRest b) (counts : Bool) :
    b.tick counts = b := by
  have hflame : b.flameLoss.tick counts = b.flameLoss := by rw [hb.flame]; rfl
  simp only [BurnerRec.tick, countUp_stopped hb.debounce, countDown_stopped hb.attempt,
    countUp_stopped hb.proving, countDown_stopped hb.gap, hflame]

theorem channel_tick_stopped {r : ChannelRec} (hsecond : r.secondTimer = none)
    (hpause : r.pauseTimer = none) : r.tick = r := by
  have hpaused (f : PauseTimer → PauseTimer) : r.pauseTimer.map f = r.pauseTimer := by rw [hpause]; rfl
  simp only [ChannelRec.tick, countUp_stopped hsecond, hpaused]

theorem load_tick_stopped {x : Option LoadContext} (hx : ∀ l ∈ x, l.idle = none) :
    x.map (fun l => { l with idle := countDown l.idle }) = x := by
  cases x with
  | none => rfl
  | some l => simp only [Option.map_some, countDown_stopped (hx l rfl)]

section

variable {s : State} (hs : LockedInv s) (hl : s.cfg.part = .locked)
include hs hl

theorem disagrees_locked (h : Heater) : disagrees s h = false := agrees_of_idle (hs.heaters hl h).1

theorem latched_locked : s.out.locked = true := (hs.latch hl).1

theorem burner_locked (n : Burner) : BurnerAtRest (s.burner n) := by
  obtain ⟨-, -, -, -, hrest⟩ := hs.burners hl
  exact hrest n

theorem rest_locked : s.bsv.rest = none := by
  obtain ⟨-, -, hrest, -⟩ := hs.burners hl
  exact hrest

theorem chan_timers_locked (c : Channel) :
    (s.chan c).secondTimer = none ∧ (s.chan c).pauseTimer = none := by
  obtain ⟨hchans, -⟩ := hs.plans hl
  exact hchans c

theorem load_idle_locked : s.pst.load.any (fun l => l.idle.isSome) = false := by
  obtain ⟨-, hidle⟩ := hs.plans hl
  cases hload : s.pst.load with
  | none => rfl
  | some l => simp [hidle l hload]

/-- A burner in LOCKED is in no state that waits for a flame or a gap (R125). -/
theorem burner_state_ne {x : BurnerState} (hoff : x ≠ .off) (hwait : x ≠ .waitClose) (n : Burner) :
    (s.burner n).state ≠ x := by
  obtain h | h := (burner_locked hs hl n).state <;> rw [h]
  · exact hoff.symm
  · exact hwait.symm

/-- A millisecond finds no timer to move but the gap timer and the transmitter of the link (R139). -/
theorem advance_dormant : Dormant s (advance s) := by
  obtain ⟨-, -, hproving⟩ := hs.latch hl
  obtain ⟨-, hslot, -⟩ := hs.frame hl
  obtain ⟨hprobe, hdoor⟩ := hs.oven hl
  obtain ⟨-, -, -, hhold, -⟩ := hs.burners hl
  obtain ⟨-, hload⟩ := hs.plans hl
  obtain ⟨-, hspacing⟩ := hs.notices hl
  have hheaters : s.out.heaters.map (fun h r => r.tick (disagrees s h)) = s.out.heaters :=
    PerHeater.ext_get fun h => by
      rw [PerHeater.get_map, disagrees_locked hs hl]
      exact heaterOut_tick_idle (hs.heaters hl h).1
  have hburners : s.bsv.burners.map (fun n b => b.tick (lossCounts n s)) = s.bsv.burners :=
    PerBurner.ext_get fun n =>
      (PerBurner.get_map _ _ n).trans (burner_tick_at_rest (burner_locked hs hl n) _)
  have hplans : s.plr.chans.map (fun _ r => r.tick) = s.plr.chans :=
    PerChannel.ext_get fun c => by
      obtain ⟨hsecond, hpause⟩ := chan_timers_locked hs hl c
      rw [PerChannel.get_map]
      exact channel_tick_stopped hsecond hpause
  have hwindow : s.bsv.hold.tick = s.bsv.hold := by rw [hhold]; rfl
  exact
    { part := rfl
      out := calc (advance s).out
          = { s.out with
              heaters := s.out.heaters.map (fun h r => r.tick (disagrees s h))
              proving := countDown s.out.proving } := rfl
        _ = s.out := by rw [hheaters, countDown_stopped hproving]
      pfs := calc (advance s).pfs
          = { s.pfs with slotTimer := countDown s.pfs.slotTimer } := rfl
        _ = s.pfs := by rw [countDown_stopped hslot]
      ovr := calc (advance s).ovr
          = { s.ovr with
              probeTimer := countDown s.ovr.probeTimer
              doorDebounce := countUp s.ovr.doorDebounce
              fanJustOff := false } := rfl
        _ = { s.ovr with fanJustOff := false } := by
          rw [countDown_stopped hprobe, countUp_stopped hdoor]
      bsv := calc (advance s).bsv
          = { s.bsv with
              burners := s.bsv.burners.map (fun n b => b.tick (lossCounts n s))
              rest := countDown s.bsv.rest
              hold := s.bsv.hold.tick } := rfl
        _ = s.bsv := by rw [hburners, countDown_stopped (rest_locked hs hl), hwindow]
      plr := calc (advance s).plr
          = { s.plr with chans := s.plr.chans.map (fun _ r => r.tick) } := rfl
        _ = s.plr := by rw [hplans]
      pst := calc (advance s).pst
          = { s.pst with
              load := s.pst.load.map (fun l => { l with idle := countDown l.idle }) } := rfl
        _ = s.pst := by rw [load_tick_stopped hload]
      ntq := calc (advance s).ntq
          = { s.ntq with spacing := countDown s.ntq.spacing } := rfl
        _ = s.ntq := by rw [countDown_stopped hspacing]
      supervision := countDown_stopped (hs.link hl) }

end

/-- The part's own clock in LOCKED (log 4). -/
theorem idleStep_keepsLocked (s : State) : KeepsLocked s (idleStep s) := by
  unfold idleStep
  split
  · exact .of_cfg rfl advance_dormant
  all_goals exact .of_dormant ⟨rfl, rfl, rfl, rfl, rfl, rfl, rfl, rfl, rfl⟩

end Sys2Proof.Proofs
end

section
/-! LOCKED (R139, R140): the entry, the link and the commands. An event finds no timer running, so its guard
fails; a request is refused or reads the status; the input lines and the link are all that still moves. -/

namespace Sys2Proof.Proofs

open Sys2Proof Sys2Proof.Machine Sys2Proof.Claims Sys2Proof.Safety

/-! ## The entry -/

/-- The entry to LOCKED switches every output off and stops every timer (R139). -/
theorem enterLocked_inv (s : State) : LockedInv (enterLocked s) := by
  have houts (h : Heater) : (enterLocked s).heaterOut h = lockHeaterOut (s.heaterOut h) :=
    PerHeater.get_map _ _ _
  have hheater (h : Heater) : (enterLocked s).heater h = { s.heater h with relay := false } :=
    PerHeater.get_map _ _ _
  have hchan (c : Channel) :
      (enterLocked s).chan c = { s.chan c with secondTimer := none, pauseTimer := none } :=
    PerChannel.get_map _ _ _
  have hburner (n : Burner) : (enterLocked s).burner n = lockBurner (s.burner n) :=
    PerBurner.get_map _ _ _
  have hstate (n : Burner) :
      ((enterLocked s).burner n).state = .off ∨ ((enterLocked s).burner n).state = .waitClose := by
    rw [hburner, lockBurner]
    cases (s.burner n).knob
    · exact .inl rfl
    · exact .inr rfl
  have hrest (n : Burner) : BurnerAtRest ((enterLocked s).burner n) :=
    ⟨hstate n, by rw [hburner]; rfl, by rw [hburner]; rfl, by rw [hburner]; rfl, by rw [hburner]; rfl,
      by rw [hburner]; rfl⟩
  have hshut (n : Burner) : valve (enterLocked s) n = false := by
    unfold valve valveOpen
    obtain h | h := hstate n <;> rw [h]
  exact
    { off := fun _ => ⟨fun h => by rw [houts]; rfl, rfl, hshut, rfl, rfl, rfl, rfl, rfl⟩
      latch := fun _ => ⟨rfl, rfl, rfl⟩
      heaters := fun _ h => by rw [houts]; exact ⟨rfl, rfl⟩
      frame := fun _ => ⟨rfl, rfl, fun h => by rw [hheater]⟩
      oven := fun _ => ⟨rfl, rfl⟩
      burners := fun _ => ⟨rfl, rfl, rfl, rfl, hrest⟩
      plans := fun _ => ⟨fun c => by rw [hchan]; exact ⟨rfl, rfl⟩, fun l hload => by
        obtain ⟨x, -, rfl⟩ := Option.map_eq_some_iff.1 hload
        rfl⟩
      notices := fun _ => ⟨rfl, rfl⟩
      link := fun _ => rfl }

/-- In LOCKED no heater disagrees; out of it a full run may lead to LOCKED (R138, R139). -/
theorem runReached_keepsLocked (h : Heater) (also : List Heater) (s : State) :
    KeepsLocked s (runReached h also s) := fun hs => by
  by_cases hd : disagrees s h = true
  · have hawake : s.cfg.part ≠ .locked := fun hl => by
      rw [disagrees_locked hs hl] at hd; cases hd
    refine ⟨?_, fun hl => absurd hl hawake⟩
    unfold runReached
    rw [if_pos hd]
    split
    · exact enterLocked_inv s
    · refine lockedInv_of_awake ?_
      split <;> simpa using hawake
  · have hsame : runReached h also s = s := if_neg hd
    rw [hsame]
    exact KeepsLocked.refl s hs

/-! ## The link -/

theorem withLnk_keepsLocked {s : State} {x : Lnk} (hx : x.supervision = s.lnk.supervision) :
    KeepsLocked s (s.withLnk x) :=
  .of_dormant ⟨rfl, rfl, rfl, rfl, rfl, rfl, rfl, rfl, hx⟩

section

variable (s : State)

theorem abandonFrame_keepsLocked : KeepsLocked s (abandonFrame s) := by
  unfold abandonFrame
  split
  · exact withLnk_keepsLocked rfl
  all_goals exact .refl s

theorem answerRequest_dormant (r : Request) (a : Answered) : Dormant a.state (answerRequest r a) := by
  unfold answerRequest clearReported
  split <;> exact ⟨rfl, rfl, rfl, rfl, rfl, rfl, rfl, rfl, rfl⟩

/-- No owner makes the part LOCKED. -/
theorem OwnerLeaves.awake {t : State} (h : OwnerLeaves s t) (hs : s.cfg.part ≠ .locked) :
    t.cfg.part ≠ .locked := by
  cases h with
  | configured x hpart => exact hpart ▸ hs
  | configClosed =>
    unfold ownCloseConfig
    split
    · exact hs
    · simp [accepted]
  | _ => simpa using hs

/-- In LOCKED a request is refused, or is a STATUS, which changes nothing (R167, R180). -/
theorem decideRequest_locked (r : Request) (hl : s.cfg.part = .locked) :
    (decideRequest r s).state = s := by
  unfold decideRequest
  split
  next => rfl
  next k hk =>
    have hstatus : k = .status := by
      unfold genericCheck at hk
      split at hk
      next => cases hk
      next =>
        split_ifs at hk with _ hrefused
        cases hk
        by_contra hne
        exact hrefused ⟨hl, hne⟩
    rw [hstatus]
    rfl

theorem decideRequest_keepsLocked (r : Request) : KeepsLocked s (decideRequest r s).state :=
  .of_part (decideRequest_leaves r s).awake fun _ hl => .of_eq (decideRequest_locked s r hl)

theorem takeRequest_keepsLocked (r : Request) : KeepsLocked s (takeRequest r s) := by
  have hdecided := decideRequest_keepsLocked s r
  unfold takeRequest
  split
  · exact KeepsLocked.after (.of_dormant (answerRequest_dormant r _)) hdecided
  · exact hdecided

theorem placeRequest_keepsLocked (r : Request) : KeepsLocked s (placeRequest r s) := by
  unfold placeRequest
  split
  · exact takeRequest_keepsLocked s r
  all_goals exact withLnk_keepsLocked rfl

/-- Supervision starts again only while OPERATING (R169). -/
theorem restartSupervision_keepsLocked : KeepsLocked s (restartSupervision s) :=
  .guarded rfl fun _ hl => by simp [hl]

theorem acceptFrame_keepsLocked (r : Request) : KeepsLocked s (acceptFrame r s) := by
  have hheard := restartSupervision_keepsLocked s
  have hplaced := (placeRequest_keepsLocked (restartSupervision s) r).after hheard
  unfold acceptFrame
  dsimp only
  split
  · exact hplaced
  · split
    · exact hplaced
    · exact hheard

theorem arriveRequest_keepsLocked (a : FrameAddr) (kind tag : Byte) (body : List Byte) :
    KeepsLocked s (arriveRequest a kind tag body s) := by
  unfold arriveRequest
  dsimp only
  split
  · exact (withLnk_keepsLocked (by rfl)).after (abandonFrame_keepsLocked s)
  · exact (acceptFrame_keepsLocked _ _).after
      ((withLnk_keepsLocked (by rfl)).after (abandonFrame_keepsLocked s))

theorem addressChar_keepsLocked (a : Byte) : KeepsLocked s (addressChar a s) := by
  unfold addressChar
  dsimp only
  split_ifs
  all_goals exact (withLnk_keepsLocked (by rfl)).after (abandonFrame_keepsLocked s)

theorem dataChar_keepsLocked (d : Byte) : KeepsLocked s (dataChar d s) := by
  unfold dataChar completeFrame
  dsimp only
  split
  · exact .refl s
  · exact .refl s
  · split_ifs
    · exact withLnk_keepsLocked (by rfl)
    · exact (acceptFrame_keepsLocked _ _).after (withLnk_keepsLocked (by rfl))
    · exact (withLnk_keepsLocked (by rfl)).after (withLnk_keepsLocked (by rfl))
    · exact withLnk_keepsLocked (by rfl)

theorem startReply_keepsLocked : KeepsLocked s (startReply s) := by
  unfold startReply
  split
  · exact withLnk_keepsLocked rfl
  · exact .refl s

/-- A restart that was accepted does not follow its reply in LOCKED (R140, log 18). -/
theorem endReply_keepsLocked : KeepsLocked s (endReply s) := by
  unfold endReply
  split
  · split
    next hrestart =>
      refine .of_part (fun _ h => by cases h) fun _ hl => ?_
      simp [acceptedRestart, hl] at hrestart
    next =>
      unfold takeWaiting
      split
      · exact withLnk_keepsLocked (by rfl)
      · exact (takeRequest_keepsLocked _ _).after
          ((withLnk_keepsLocked (by rfl)).after (withLnk_keepsLocked (by rfl)))
  all_goals exact .refl s

/-! ## The commands -/

variable {s} {t : State}

theorem withPins_keepsLocked (x : Pins) : KeepsLocked s (s.withPins x) :=
  .of_dormant ⟨rfl, rfl, rfl, rfl, rfl, rfl, rfl, rfl, rfl⟩

theorem pauseTimerSecond_keepsLocked {c : Channel} (h : exec (.pauseTimerSecond c) s = .next t) :
    KeepsLocked s t := by
  cases h
  split
  next => exact .refl s
  next hrun =>
    refine .of_cfg (by split <;> simp) fun hs hl => ?_
    rw [(chan_timers_locked hs hl c).2] at hrun
    cases hrun

/-- In LOCKED a reading is shown at the line and not taken (R98). -/
theorem probeReading_keepsLocked {reading : Int} (h : exec (.probeReading reading) s = .next t) :
    KeepsLocked s t := by
  cases h
  refine .after (t := s.withPins { s.pins with prb := reading }) ?_ (withPins_keepsLocked _)
  refine .guarded (by dsimp only; split <;> simp) fun hs hl hruns => ?_
  obtain ⟨hprobe, -⟩ := hs.oven hl
  rw [hprobe] at hruns
  cases hruns

/-- A change of the door's line starts no debounce in LOCKED (R98). -/
theorem doorInputChange_keepsLocked {level : DoorPos}
    (h : exec (.doorInputChange level) s = .next t) : KeepsLocked s t := by
  cases h
  split
  · exact .refl s
  · exact .after (.passed rfl latched_locked) (withPins_keepsLocked _)

/-- A change of a knob's line starts no debounce in LOCKED (R125). -/
theorem knobInputChange_keepsLocked {n : Burner} {level : KnobPos}
    (h : exec (.knobInputChange n level) s = .next t) : KeepsLocked s t := by
  cases h
  split
  · exact .refl s
  · exact .after (.passed rfl latched_locked) (withPins_keepsLocked _)

theorem flameSenseChange_keepsLocked {n : Burner} {shown : Bool}
    (h : exec (.flameSenseChange n shown) s = .next t) : KeepsLocked s t := by
  cases h
  exact .after (.passed rfl latched_locked) (withPins_keepsLocked _)

theorem holdTailEnd_keepsLocked (h : exec .holdTailEnd s = .next t) : KeepsLocked s t := by
  cases h
  split
  next htail =>
    refine .of_cfg (by simp [foldl_keeps (g := State.cfg)]) fun hs hl => ?_
    obtain ⟨-, -, -, hhold, -⟩ := hs.burners hl
    rw [htail] at hhold
    cases hhold
  all_goals exact .refl s

theorem setHeaterOut_run_zero {s : State} {g : Heater} (hrun : (s.heaterOut g).run = 0) :
    s.setHeaterOut g { s.heaterOut g with run := 0 } = s := by
  have hrecord : { s.heaterOut g with run := 0 } = s.heaterOut g := by rw [← hrun]
  rw [hrecord, State.setHeaterOut, State.heaterOut, PerHeater.set_get_self]
  rfl

/-- The run that agreement returns to 0 is 0 in LOCKED (R131, R139). -/
theorem loadSenseChange_keepsLocked {g : Heater} {present : Bool}
    (h : exec (.loadSenseChange g present) s = .next t) : KeepsLocked s t := by
  cases h
  refine .after (t := s.withPins { s.pins with loadSense := s.pins.loadSense.set g present }) ?_
    (withPins_keepsLocked _)
  dsimp only
  split
  · exact .refl _
  · exact .of_cfg rfl fun hs hl => .of_eq (setHeaterOut_run_zero (hs.heaters hl g).2)

theorem settlingEnd_keepsLocked {g : Heater} (h : exec (.settlingEnd g) s = .next t) :
    KeepsLocked s t := by
  cases h
  split
  next hsettles =>
    refine .of_cfg rfl fun hs hl => ?_
    obtain ⟨hidle, -⟩ := hs.heaters hl g
    rw [hsettles] at hidle
    cases hidle
  all_goals exact .refl s

theorem contactorProvingExpiry_keepsLocked (h : exec .contactorProvingExpiry s = .next t) :
    KeepsLocked s t := by
  cases h
  refine .of_cfg rfl fun hs hl => .of_eq ?_
  obtain ⟨-, -, hproving⟩ := hs.latch hl
  rw [← hproving]
  rfl

/-- Every command but a power-on reset keeps LOCKED. -/
theorem exec_keepsLocked (i : Instr) (hi : ∀ p, i ≠ .powerOnReset p) (h : exec i s = .next t) :
    KeepsLocked s t := by
  have hrequest {r : Request} (hr : requestFrame i = some r) : KeepsLocked s t := by
    rw [exec_eq_arrive s hr] at h
    cases h
    exact arriveRequest_keepsLocked s _ _ _ _
  cases i
  case powerOnReset p => exact absurd rfl (hi p)
  case addressCharacter a => cases h; exact addressChar_keepsLocked s a
  case dataCharacter d => cases h; exact dataChar_keepsLocked s d
  case framingError => cases h; exact abandonFrame_keepsLocked s
  case gapTimeout =>
    cases h; split
    · exact abandonFrame_keepsLocked s
    · exact .refl s
  case replyStart => cases h; exact startReply_keepsLocked s
  case replySent => cases h; exact endReply_keepsLocked s
  case linkSupervisionExpiry => cases h; exact .guarded (by simp) fun hs hl => by simp [hs.link hl]
  case loadIdleTimeout =>
    cases h; exact .guarded (by simp) fun hs hl => by simp [load_idle_locked hs hl]
  case channelSecond c =>
    cases h; exact .guarded (by simp) fun hs hl => by simp [(chan_timers_locked hs hl c).1]
  case stageElapsed c =>
    cases h; exact .guarded (by simp) fun hs hl => by simp [(chan_timers_locked hs hl c).1]
  case pauseTimerSecond => exact pauseTimerSecond_keepsLocked h
  case pauseExpiry c =>
    cases h; exact .guarded (by simp) fun hs hl => by simp [(chan_timers_locked hs hl c).2]
  case slotBoundary => cases h; exact .guarded (by simp) fun hs hl => by simp [(hs.frame hl).1]
  case frameBoundary => cases h; exact .passed (by simp) fun hs hl => (hs.frame hl).1
  case probeReading => exact probeReading_keepsLocked h
  case doorInputChange => exact doorInputChange_keepsLocked h
  case knobInputChange => exact knobInputChange_keepsLocked h
  case doorOpened | doorClosed | knobOpened | knobClosed =>
    cases h; exact .passed (by simp) fun hs hl => .inl (latched_locked hs hl)
  case restTimerExpiry => cases h; exact .guarded (by simp) fun hs hl => by simp [rest_locked hs hl]
  case flameSenseChange => exact flameSenseChange_keepsLocked h
  case flameProven n | attemptFailed n | retryGapExpiry n =>
    cases h
    exact .guarded (by simp) fun hs hl hp => burner_state_ne hs hl (by decide) (by decide) n hp.1
  case flameLost n =>
    cases h
    exact .guarded (by simp) fun hs hl hp =>
      burner_state_ne hs hl (by decide) (by decide) n ((lossCounts_iff n s).1 hp).1
  case holdTailEnd => exact holdTailEnd_keepsLocked h
  case loadSenseChange => exact loadSenseChange_keepsLocked h
  case settlingEnd => exact settlingEnd_keepsLocked h
  case persistenceRunExpiry g also => cases h; exact runReached_keepsLocked g also s
  case contactorProvingExpiry => exact contactorProvingExpiry_keepsLocked h
  case spacingTimerExpiry =>
    cases h; exact .guarded (by simp) fun hs hl => by simp [(hs.notices hl).2]
  all_goals exact hrequest rfl

end

/-- After a reset the part is CONFIGURING (R175). -/
theorem powerOn_awake (p : ResetPins) (s : State) : (powerOn p s).cfg.part ≠ .locked := nofun

/-- Settles O57: a power-on reset leaves no LOCKED part, every other command keeps LOCKED, and so does the
part's own clock. -/
theorem lockedIsKeptUntilPowerOn : Obligations.LockedIsKeptUntilPowerOn := by
  intro s t hs hstep
  unfold step at hstep
  split at hstep
  next i rest hpending =>
    by_cases hi : ∃ p, i = .powerOnReset p
    · obtain ⟨p, rfl⟩ := hi
      cases hstep
      exact ⟨lockedInv_of_awake (powerOn_awake p _), fun _ hno => absurd hpending (hno p rest)⟩
    · have hwaiting : KeepsLocked s (s.withPending rest) :=
        .of_dormant ⟨rfl, rfl, rfl, rfl, rfl, rfl, rfl, rfl, rfl⟩
      have hkeeps := (exec_keepsLocked i (fun p hp => hi ⟨p, hp⟩) hstep).after hwaiting
      exact ⟨(hkeeps hs).1, fun hl _ => (hkeeps hs).2 hl⟩
  next =>
    cases hstep
    exact ⟨(idleStep_keepsLocked s hs).1, fun hl _ => (idleStep_keepsLocked s hs).2 hl⟩

end Sys2Proof.Proofs
end

section
/-! RESTART (R182) and the watch over the loads (R129 to R131, R138). -/

namespace Sys2Proof.Proofs

open Sys2Proof Sys2Proof.Machine Sys2Proof.Claims

/-! ## RESTART -/

/-- The contactor check is proving while its timer runs, and while it is on and a run counts (R138). -/
theorem contactorProving_iff (s : State) : contactorProving s = true ↔
    s.out.proving ≠ none ∨
      s.out.check = true ∧ ∃ h, (s.install h).installed = true ∧ 0 < (s.heaterOut h).run := by
  simp [contactorProving, installedHeaters, mem_allHeaters, Option.isSome_iff_ne_none]

theorem exec_restart (tag : Byte) {s : State} (hs : free s) (hp : s.cfg.part ≠ .locked) :
    exec (.restart tag) s =
      .next (answerRequest ⟨.unit, 0x08, tag, []⟩ (ownRestart (heard s))) :=
  exec_passed (k := .restart) rfl (by simp) hs rfl rfl (.inl hp) (fun _ => rfl) (fun _ => rfl)

/-- Settles O14: RESTART by its checks in order. -/
theorem restartIsCheckedInOrder : Obligations.RestartIsCheckedInOrder := by
  intro tag s hs hp r active lit proving
  have hchan (c : Channel) : c ∈ allChannels := by cases c <;> decide
  have hburner (n : Burner) : n ∈ allBurners := by cases n <;> decide
  have hactive : (∃ c ∈ allChannels, ((heard s).chan c).state = .running ∨
      ((heard s).chan c).state = .paused) ↔ active := by simp [active, hchan]
  have hlit : (∃ n ∈ allBurners, ((heard s).burner n).state ≠ .off) ↔ lit := by simp [lit, hburner]
  have hproving : contactorProving (heard s) = true ↔ proving := contactorProving_iff (heard s)
  rw [exec_restart tag hs hp, ownRestart]
  refine ⟨fun ha => ?_, fun ha hl => ?_, fun ha hl hc => ?_, fun ha hl hc => ?_⟩
  · rw [if_pos (hactive.2 ha), answer_refused]
  · rw [if_neg (hactive.not.2 ha), if_pos (hlit.2 hl), answer_refused]
  · rw [if_neg (hactive.not.2 ha), if_neg (hlit.not.2 hl), if_pos (hproving.2 hc), answer_refused]
  · rw [if_neg (hactive.not.2 ha), if_neg (hlit.not.2 hl), if_neg (hproving.not.2 hc),
      answer_accepted]

/-! ## The watch over the loads -/

/-- The expected sense differs from the shown one (R129). -/
theorem unexpected_iff (s : State) (h : Heater) :
    (expectedSense s h).any (fun e => e != s.pins.loadSense.get h) = true ↔
      (s.install h).installed = true ∧
        (s.out.contactor = .closed ∧ s.pins.loadSense.get h ≠ (s.heater h).relay ∨
          s.out.contactor = .opened ∧ s.out.check = true ∧ s.pins.loadSense.get h = true) := by
  unfold expectedSense
  cases (s.install h).installed <;> cases s.out.contactor <;> cases s.out.check <;>
    simp [eq_comm (a := (s.heater h).relay)]

/-- A heater disagrees while it is WATCHING, its sense is not the expected one, and it is not a WELDED one
commanded off under a CLOSED contactor (R131). -/
theorem disagrees_iff (s : State) (h : Heater) : disagrees s h = true ↔
    (s.install h).installed = true ∧ (s.heaterOut h).check = .watching ∧
      (s.out.contactor = .closed ∧ s.pins.loadSense.get h ≠ (s.heater h).relay ∧
          ((s.heater h).relay = true ∨ (s.heaterOut h).welded = false) ∨
        s.out.contactor = .opened ∧ s.out.check = true ∧ s.pins.loadSense.get h = true) := by
  have hwelded : (!(decide (s.out.contactor = .closed) && !(s.heater h).relay &&
      (s.heaterOut h).welded)) = true ↔ s.out.contactor = .opened ∨
        (s.heater h).relay = true ∨ (s.heaterOut h).welded = false := by
    cases s.out.contactor <;> cases (s.heater h).relay <;> simp
  rw [disagrees, Bool.and_eq_true, Bool.and_eq_true, decide_eq_true_eq, unexpected_iff, hwelded]
  cases s.out.contactor <;> simp [and_assoc, and_left_comm]

theorem execSettlingEnd_settling {h : Heater} {s : State} {k : Nat}
    (hk : (s.heaterOut h).check = .settling k) : execSettlingEnd h s =
      .next (s.setHeaterOut h { s.heaterOut h with check := .watching, run := 0 }) := by
  simp only [execSettlingEnd, hk]

theorem execSettlingEnd_off {h : Heater} {s : State} (hk : ∀ k, (s.heaterOut h).check ≠ .settling k) :
    execSettlingEnd h s = .next s := by
  unfold execSettlingEnd
  split
  next k hsettles => exact absurd hsettles (hk k)
  all_goals rfl

/-- Settles O48: when a heater disagrees by disagrees_iff, and each check by its command. -/
theorem loadsAreWatched : Obligations.LoadsAreWatched := fun h s =>
  ⟨disagrees_iff s h, fun _ => rfl, fun _ hk => execSettlingEnd_settling hk, execSettlingEnd_off,
    fun also hd => congrArg _ (if_neg (by simp [hd])), rfl⟩

end Sys2Proof.Proofs
end

section
/-! Notices (R145 to R151): the assertion check as a function of the notice queue, and the four operations
that it follows. -/

namespace Sys2Proof.Proofs

open Sys2Proof Sys2Proof.Machine Sys2Proof.Claims

/-- The assertion check acts on the notice queue alone, as R149 says it. -/
theorem assertionCheck_eq_checked (s : State) :
    assertionCheck s = s.withNtq (checked s.cfg.spacing s.ntq) := by
  unfold assertionCheck checked
  split <;> rfl

theorem assertionCheck_withNtq (s : State) (q : Ntq) :
    assertionCheck (s.withNtq q) = s.withNtq (checked s.cfg.spacing q) :=
  assertionCheck_eq_checked _

theorem armLine_eq_checked (s : State) :
    armLine s = s.withNtq (checked s.cfg.spacing { s.ntq with armed := true }) :=
  assertionCheck_withNtq _ _

/-- A notice by what stands of the queue: frozen, with room, or full (R145, R153). -/
theorem raise_eq_checked (n : Notice) (s : State) : raise n s = s.withNtq
    (if s.ntq.frozen then s.ntq
    else if s.ntq.queue.length < 16 then
      checked s.cfg.spacing { s.ntq with queue := s.ntq.queue ++ [n] }
    else { s.ntq with overflow := true }) := by
  rw [raise, assertionCheck_withNtq]
  split_ifs <;> rfl

/-! ## FETCH NOTICES -/

/-- The notice queue without its oldest notices (R146 steps 1 to 4, R150). -/
def fetched (maximum : Nat) (q : Ntq) : Ntq :=
  let rest := q.queue.drop maximum
  { q with queue := rest, overflow := false, attn := q.attn && !rest.isEmpty }

theorem takeNotices_eq_fetched (maximum : Nat) (s : State) :
    takeNotices maximum s = s.withNtq (fetched maximum s.ntq) := by
  have hattn (rest : List Notice) :
      (if rest = [] then false else s.ntq.attn) = (s.ntq.attn && !rest.isEmpty) := by
    cases rest <;> simp
  rw [takeNotices, hattn, fetched]

/-- A re-arm flag of 1 arms the line once the notices are taken (R146 step 5). -/
theorem takeNotices_rearm (maximum rearm : Nat) (s : State) :
    (if rearm = 1 then armLine (takeNotices maximum s) else takeNotices maximum s) =
      s.withNtq (if rearm = 1 then
        checked s.cfg.spacing { fetched maximum s.ntq with armed := true }
      else fetched maximum s.ntq) := by
  rw [takeNotices_eq_fetched, armLine_eq_checked]
  split <;> rfl

/-- The notices left over are those that are not taken. -/
theorem length_sub_taken (maximum : Nat) (queue : List Notice) :
    queue.length - (queue.take maximum).length = (queue.drop maximum).length := by
  simp only [List.length_take, List.length_drop]; omega

theorem ownFetchNotices_accepted {maximum rearm : Nat} (hm : 1 ≤ maximum ∧ maximum ≤ 5)
    (hr : rearm ≤ 1) (s : State) :
    ownFetchNotices maximum rearm s = accepted
      ([byteOf (s.ntq.queue.take maximum).length, if s.ntq.overflow then 1 else 0,
        byteOf (s.ntq.queue.drop maximum).length] ++
        (s.ntq.queue.take maximum).flatMap noticeChars)
      (s.withNtq (if rearm = 1 then
        checked s.cfg.spacing { fetched maximum s.ntq with armed := true }
      else fetched maximum s.ntq)) := by
  rw [ownFetchNotices, if_neg (by omega), if_neg (by omega)]
  dsimp only
  rw [takeNotices_rearm, length_sub_taken, byteOf_flag]

theorem exec_fetchNotices (tag maximum rearm : Byte) {s : State} (hs : free s)
    (hp : s.cfg.part ≠ .locked) :
    exec (.fetchNotices tag maximum rearm) s =
      .next (answerRequest ⟨.unit, 0x30, tag, [maximum, rearm]⟩
        (ownFetchNotices maximum.toNat rearm.toNat (heard s))) :=
  exec_passed (k := .fetchNotices) rfl (by simp) hs rfl rfl (.inl hp) (fun _ => rfl) (fun _ => rfl)

/-! ## ARM ATTENTION and the spacing timer -/

theorem exec_armAttention (tag : Byte) {s : State} (hs : free s) (hp : s.cfg.part ≠ .locked) :
    exec (.armAttention tag) s =
      .next (answerRequest ⟨.unit, 0x31, tag, []⟩ (ownArmAttention (heard s))) :=
  exec_passed (k := .armAttention) rfl (by simp) hs rfl rfl (.inl hp) (fun _ => rfl) (fun _ => rfl)

theorem ownArmAttention_eq_checked (s : State) :
    ownArmAttention s =
      let q := checked s.cfg.spacing { s.ntq with armed := true }
      accepted [byteOf q.queue.length, if q.attn then 1 else 0] (s.withNtq q) := by
  rw [ownArmAttention, armLine_eq_checked, byteOf_flag]; rfl

theorem execSpacingTimerExpiry_running {s : State} {n : Nat} (hn : s.ntq.spacing = some n) :
    execSpacingTimerExpiry s =
      .next (s.withNtq (checked s.cfg.spacing { s.ntq with spacing := none })) := by
  rw [execSpacingTimerExpiry, if_pos (by simp [hn]), assertionCheck_withNtq]

theorem execSpacingTimerExpiry_stopped {s : State} (hn : s.ntq.spacing = none) :
    execSpacingTimerExpiry s = .next s := by
  rw [execSpacingTimerExpiry, if_neg (by simp [hn])]

/-- Settles O31: a notice by the room in the queue, the two requests by their operands, and the spacing
timer by whether it runs. -/
theorem noticesAreQueuedAndFetched : Obligations.NoticesAreQueuedAndFetched := by
  refine ⟨raise_eq_checked, fun tag maximum rearm s hs hp => ?_, fun tag s hs hp => ?_, fun s =>
    ⟨fun _ => execSpacingTimerExpiry_running, execSpacingTimerExpiry_stopped⟩⟩
  · intro req fits q taken rest after
    rw [exec_fetchNotices tag maximum rearm hs hp]
    refine ⟨fun hm => ?_, fun hm hr => ?_, fun hm hr => ?_⟩
    · rw [ownFetchNotices, if_pos (by omega), answer_refused]
    · rw [ownFetchNotices, if_neg (by omega), if_pos (by omega), answer_refused]
    · rw [ownFetchNotices_accepted hm hr, answer_accepted]; rfl
  · rw [exec_armAttention tag hs hp, ownArmAttention_eq_checked, answer_accepted]; rfl

end Sys2Proof.Proofs
end

section
/-! The frame assembler (R156 to R159): what each character, a framing error and the gap timer do to the
frame being assembled. -/

namespace Sys2Proof.Proofs

open Sys2Proof Sys2Proof.Machine Sys2Proof.Claims

/-! ## Checksums and LEN -/

/-- Characters add up modulo 256 (R159). -/
theorem sum8_toNat (chars : List Byte) :
    (sum8 chars).toNat = (chars.map (fun b => b.toNat)).sum % 256 := by
  induction chars with
  | nil => rfl
  | cons b bs ih => simp [sum8, ih]

theorem sum8_eq_zero_iff (chars : List Byte) :
    sum8 chars = 0 ↔ (chars.map (fun b => b.toNat)).sum % 256 = 0 := by
  rw [← sum8_toNat, ← BitVec.toNat_inj]; rfl

theorem sum8_append (l m : List Byte) : sum8 (l ++ m) = sum8 l + sum8 m := by
  induction l with
  | nil => simp [sum8]
  | cons b bs ih => simp [sum8, ih, BitVec.add_assoc]

/-- A SUM closes its frame to 0 (R159, R164). -/
theorem sum8_append_neg (chars : List Byte) : sum8 (chars ++ [-(sum8 chars)]) = 0 := by
  simp [sum8_append, sum8]

/-- LEN is the first data character. -/
theorem num8_zero_eq_headD (chars : List Byte) : num8 chars 0 = (chars.headD 0).toNat := by
  cases chars <;> rfl

/-! ## A frame that is cut off -/

theorem assembling_eq_true_iff (s : State) :
    assembling s = true ↔ ∃ a got, s.lnk.assembler = .assembling a got := by
  unfold assembling
  cases s.lnk.assembler <;> simp

theorem assembling_eq_false_iff (s : State) :
    assembling s = false ↔ s.lnk.assembler = .idle ∨ s.lnk.assembler = .ignoring := by
  unfold assembling
  cases s.lnk.assembler <;> simp

theorem abandonFrame_of_assembling {s : State} (hs : assembling s = true) :
    abandonFrame s = s.withLnk { s.lnk with assembler := .idle, gap := none, dropped := true } := by
  obtain ⟨a, got, hframe⟩ := (assembling_eq_true_iff s).1 hs
  simp only [abandonFrame, hframe, discardFrame]

theorem abandonFrame_of_not_assembling {s : State} (hs : assembling s = false) :
    abandonFrame s = s := by
  obtain hidle | hidle := (assembling_eq_false_iff s).1 hs <;> simp only [abandonFrame, hidle]

/-- An address character starts a frame for this part or deselects it, and DROPPED shows a frame that it
cut off (R156, R158). -/
theorem addressChar_eq (a : Byte) (s : State) :
    addressChar a s = s.withLnk
      (if a = s.lnk.unitAddress then
        { s.lnk with
          assembler := .assembling .unit [], gap := some 0, dropped := s.lnk.dropped || assembling s }
      else if a = 0x3F then
        { s.lnk with
          assembler := .assembling .broadcast [], gap := some 0
          dropped := s.lnk.dropped || assembling s }
      else
        { s.lnk with
          assembler := .ignoring, gap := none, dropped := s.lnk.dropped || assembling s }) := by
  rw [apply_ite s.withLnk, apply_ite s.withLnk]
  unfold addressChar
  cases hs : assembling s with
  | true => rw [abandonFrame_of_assembling hs, Bool.or_true]; rfl
  | false => rw [abandonFrame_of_not_assembling hs, Bool.or_false]

/-! ## A data character -/

/-- Outside a frame a data character is passed over (R156). -/
theorem dataChar_of_not_assembling {s : State} (hs : assembling s = false) (d : Byte) :
    dataChar d s = s := by
  obtain hidle | hidle := (assembling_eq_false_iff s).1 hs <;> simp only [dataChar, hidle]

section

variable {s : State} {a : FrameAddr} {got : List Byte} (hs : s.lnk.assembler = .assembling a got)
  (d : Byte)
include hs

/-- A LEN outside 2 to 26 discards the frame (R157). -/
theorem dataChar_badLen (hlen : num8 (got ++ [d]) 0 < 2 ∨ 26 < num8 (got ++ [d]) 0) :
    dataChar d s =
      s.withLnk { s.lnk with assembler := .ignoring, gap := none, dropped := true } := by
  unfold dataChar
  rw [hs]
  exact if_pos hlen

/-- Before the (LEN + 2)th character the frame grows by one (R157). -/
theorem dataChar_grows (hlen : ¬ (num8 (got ++ [d]) 0 < 2 ∨ 26 < num8 (got ++ [d]) 0))
    (hmore : (got ++ [d]).length ≠ num8 (got ++ [d]) 0 + 2) :
    dataChar d s =
      s.withLnk { s.lnk with assembler := .assembling a (got ++ [d]), gap := some 0 } := by
  unfold dataChar
  rw [hs]
  exact (if_neg hlen).trans (if_neg hmore)

/-- The (LEN + 2)th character ends the frame (R157). -/
theorem dataChar_ends (hlen : ¬ (num8 (got ++ [d]) 0 < 2 ∨ 26 < num8 (got ++ [d]) 0))
    (hlast : (got ++ [d]).length = num8 (got ++ [d]) 0 + 2) :
    dataChar d s = completeFrame a (got ++ [d]) s := by
  unfold dataChar
  rw [hs]
  exact (if_neg hlen).trans (if_pos hlast)

end

/-- A frame whose characters add up to 0 is a request (R159). -/
theorem completeFrame_of_sum {chars : List Byte} (hsum : sum8 chars = 0) (a : FrameAddr) (s : State) :
    completeFrame a chars s =
      acceptFrame ⟨a, chars.getD 1 0, chars.getD 2 0, (chars.drop 3).dropLast⟩
        (s.withLnk { s.lnk with assembler := .idle, gap := none }) :=
  if_pos hsum

/-- Any other frame is discarded (R159). -/
theorem completeFrame_of_bad_sum {chars : List Byte} (hsum : sum8 chars ≠ 0) (a : FrameAddr)
    (s : State) :
    completeFrame a chars s =
      s.withLnk { s.lnk with assembler := .idle, gap := none, dropped := true } :=
  if_neg hsum

/-- A data character within a frame, by LEN, by the characters still missing and by their sum. -/
theorem execDataCharacter_assembling {s : State} {a : FrameAddr} {got : List Byte}
    (hs : s.lnk.assembler = .assembling a got) (d : Byte) :
    let chars := got ++ [d]
    let len := (chars.headD 0).toNat
    exec (.dataCharacter d) s =
      if len < 2 ∨ 26 < len then
        .next (s.withLnk { s.lnk with assembler := .ignoring, gap := none, dropped := true })
      else if chars.length ≠ len + 2 then
        .next (s.withLnk { s.lnk with assembler := .assembling a chars, gap := some 0 })
      else if (chars.map (fun b => b.toNat)).sum % 256 = 0 then
        .next (acceptFrame ⟨a, chars.getD 1 0, chars.getD 2 0, (chars.drop 3).dropLast⟩
          (s.withLnk { s.lnk with assembler := .idle, gap := none }))
      else .next (s.withLnk { s.lnk with assembler := .idle, gap := none, dropped := true }) := by
  intro chars len
  have hexec : exec (.dataCharacter d) s = .next (dataChar d s) := rfl
  have hnum : num8 chars 0 = len := num8_zero_eq_headD chars
  rw [hexec]
  split_ifs with hlen hmore hsum
  · rw [dataChar_badLen hs d (hnum ▸ hlen)]
  · rw [dataChar_grows hs d (hnum ▸ hlen) (hnum ▸ hmore)]
  · rw [dataChar_ends hs d (hnum ▸ hlen) (hnum ▸ not_not.1 hmore),
      completeFrame_of_sum ((sum8_eq_zero_iff _).2 hsum)]
  · rw [dataChar_ends hs d (hnum ▸ hlen) (hnum ▸ not_not.1 hmore),
      completeFrame_of_bad_sum ((sum8_eq_zero_iff _).not.2 hsum)]

/-! ## The gap timer -/

theorem execGapTimeout_running {s : State} {n : Nat} (hn : s.lnk.gap = some n) :
    exec .gapTimeout s = .next (abandonFrame s) :=
  congrArg Host.Outcome.next (if_pos (by rw [hn]; rfl))

theorem execGapTimeout_stopped {s : State} (hn : s.lnk.gap = none) : exec .gapTimeout s = .next s :=
  congrArg Host.Outcome.next (if_neg (by rw [hn]; exact Bool.false_ne_true))

/-- The frame being assembled is discarded once: after that an address character finds none. -/
theorem addressChar_abandonFrame (a : Byte) (s : State) :
    addressChar a (abandonFrame s) = addressChar a s := by
  cases hs : assembling s with
  | true =>
    have hidle : assembling (abandonFrame s) = false := by rw [abandonFrame_of_assembling hs]; rfl
    unfold addressChar
    rw [abandonFrame_of_not_assembling hidle]
  | false => rw [abandonFrame_of_not_assembling hs]

/-- Settles O5: data characters by execDataCharacter_assembling, the cuts by abandonFrame. -/
theorem charactersAreAssembled : Obligations.CharactersAreAssembled := by
  refine ⟨fun d s => ⟨fun hs => ?_, fun a got hs => execDataCharacter_assembling hs d⟩,
    fun s => ⟨fun a => congrArg _ (addressChar_eq a s), ?_⟩⟩
  · exact congrArg _ (dataChar_of_not_assembling hs d)
  · intro discarded
    refine ⟨fun hs => ?_, fun hs => ?_, execGapTimeout_stopped⟩
    · have hcut : abandonFrame s = discarded := abandonFrame_of_assembling hs
      refine ⟨congrArg _ hcut, fun n hn => by rw [execGapTimeout_running hn, hcut], fun a => ?_⟩
      rw [← hcut]
      exact congrArg Host.Outcome.next (addressChar_abandonFrame a s).symm
    · exact congrArg _ (abandonFrame_of_not_assembling hs)

end Sys2Proof.Proofs
end

section
/-! The two request slots (R160, R162, R163, R169): how a request is placed, and what the take of it leaves
on the link. -/

namespace Sys2Proof.Proofs

open Sys2Proof Sys2Proof.Machine Sys2Proof.Claims

/-! ## Placing -/

theorem restartSupervision_eq (s : State) : restartSupervision s = s.withLnk { s.lnk with
    supervision :=
      if s.cfg.part = .operating then some (1000 * s.cfg.supervision) else s.lnk.supervision } := by
  unfold restartSupervision; split <;> rfl

/-- Only STOP ALL is sent to the broadcast address (R162). -/
theorem stopAll_of_broadcast {c : Instr} {r : Request} (hc : requestFrame c = some r)
    (ha : r.addr = .broadcast) : r.kind = 0x20 ∧ r.body = [] := by
  cases c <;> simp only [requestFrame, Option.some.injEq, reduceCtorEq] at hc <;> subst hc
  case stopAll => exact ⟨rfl, rfl⟩
  all_goals cases ha

/-- A request command places its request at the link that has heard its frame (R160, R169). -/
theorem exec_eq_place {c : Instr} {r : Request} (s : State) (hc : requestFrame c = some r)
    (hb : r.body.length ≤ 24) : exec c s = .next (placeRequest r (heard s)) := by
  have hstop := stopAll_of_broadcast hc
  rw [exec_eq_arrive s hc]
  obtain ⟨a, kind, tag, body⟩ := r
  cases a with
  | unit => rw [arrive_eq_place s hb]
  | broadcast =>
    obtain ⟨rfl, rfl⟩ : kind = 0x20 ∧ body = [] := hstop rfl
    rw [arrive_broadcast_eq_place]

/-- A request that finds the executing slot empty is taken (R160). -/
theorem exec_eq_take {c : Instr} {r : Request} {s : State} (hc : requestFrame c = some r)
    (hb : r.body.length ≤ 24) (hs : free s) : exec c s = .next (takeRequest r (heard s)) := by
  rw [exec_eq_place s hc hb, place_free r (heard s) hs]

theorem placeRequest_waits {s : State} {e : Request} (he : s.lnk.executing = some e)
    (hw : s.lnk.waiting = none) (r : Request) :
    placeRequest r s = s.withLnk { s.lnk with waiting := some r } := by
  simp only [placeRequest, he, hw]

theorem placeRequest_dropped {s : State} {e w : Request} (he : s.lnk.executing = some e)
    (hw : s.lnk.waiting = some w) (r : Request) :
    placeRequest r s = s.withLnk { s.lnk with dropped := true } := by
  simp only [placeRequest, he, hw]

/-! ## Taking -/

/-- The reply delay is 2 to 25 ms (R163). -/
theorem chosenDelay_bounds (drawn : Nat) : 2 ≤ chosenDelay drawn ∧ chosenDelay drawn ≤ 25 := by
  unfold chosenDelay; omega

/-- The reply to a request that is being executed is delayed, and the waiting slot is as it was. -/
structure AwaitsReply (r : Request) (waiting : Option Request) (t : State) : Prop where
  executing : t.lnk.executing = some r
  waiting : t.lnk.waiting = waiting
  delayed : ∃ d, t.lnk.transmitter = .delay d ∧ 2 ≤ d ∧ d ≤ 25

theorem answerRequest_awaitsReply (r : Request) (a : Answered) :
    AwaitsReply r a.state.lnk.waiting (answerRequest r a) where
  executing := rfl
  waiting := by unfold answerRequest clearReported; split <;> rfl
  delayed := ⟨_, rfl, chosenDelay_bounds _⟩

/-- A unit request that is taken executes and awaits its reply (R161, R163). -/
theorem takeRequest_awaitsReply {r : Request} (ha : r.addr = .unit) (s : State) :
    AwaitsReply r s.lnk.waiting (takeRequest r s) := by
  have hwaiting : (decideRequest r s).state.lnk.waiting = s.lnk.waiting := by
    rw [(decideRequest_keeps r s).lnk]
  unfold takeRequest
  rw [ha, ← hwaiting]
  exact answerRequest_awaitsReply r _

/-- A broadcast request leaves the link but for supervision (R162). -/
theorem takeRequest_broadcast_lnk {r : Request} (ha : r.addr = .broadcast) (s : State) :
    (takeRequest r s).lnk =
      { s.lnk with supervision := (takeRequest r s).lnk.supervision } := by
  unfold takeRequest
  rw [ha]
  exact (decideRequest_keeps r s).lnk

/-! ## Broadcast frames -/

/-- The body of a frame is empty when it has four characters after its address character. -/
theorem body_eq_nil_iff {chars : List Byte} {len : Nat} (hchars : chars.length = len + 2)
    (hlen : 2 ≤ len) : (chars.drop 3).dropLast = [] ↔ len = 2 := by
  rw [← List.length_eq_zero_iff, List.length_dropLast, List.length_drop]
  omega

/-- A broadcast frame that is no STOP ALL is passed over (R162). -/
theorem acceptFrame_broadcast_other {r : Request} (ha : r.addr = .broadcast)
    (hr : ¬ (r.kind = 0x20 ∧ r.body = [])) (s : State) : acceptFrame r s = restartSupervision s := by
  simp only [acceptFrame, ha, if_neg hr]

/-- A STOP ALL command on a link without a frame being assembled. -/
theorem exec_stopAll_broadcast (tag : Byte) {s : State} (hs : assembling s = false) :
    exec (.stopAll true tag) s = .next (acceptFrame ⟨.broadcast, 0x20, tag, []⟩
      (s.withLnk { s.lnk with assembler := .idle, gap := none })) := by
  rw [exec_eq_arrive (r := ⟨.broadcast, 0x20, tag, []⟩) s rfl]
  simp only [arriveRequest, abandonFrame_of_not_assembling hs]
  rfl

/-- Settles O6: a request by exec_eq_place and the slots, a broadcast frame by its KIND and its body. -/
theorem requestsArePlaced : Obligations.RequestsArePlaced := by
  refine ⟨fun c r s hc hb => ⟨fun he => ?_, fun e he hw => ?_, fun e w he hw => ?_⟩,
    fun got d s hs => ?_⟩
  · have htake := exec_eq_take hc hb he
    refine ⟨htake, fun ha => ⟨_, htake, ?_⟩⟩
    obtain ⟨hexecuting, hwaiting, hdelayed⟩ := takeRequest_awaitsReply ha (heard s)
    exact ⟨hexecuting, hwaiting, hdelayed⟩
  · rw [exec_eq_place s hc hb, placeRequest_waits (s := heard s) he hw]
  · rw [exec_eq_place s hc hb, placeRequest_dropped (s := heard s) he hw]
  · intro chars len closed hlow hhigh hchars hsum
    have hframe : exec (.dataCharacter d) s = .next (acceptFrame
        ⟨.broadcast, chars.getD 1 0, chars.getD 2 0, (chars.drop 3).dropLast⟩ closed) := by
      rw [execDataCharacter_assembling hs d, if_neg (not_or.2 ⟨hlow.not_gt, hhigh.not_gt⟩),
        if_neg (not_not.2 hchars), if_pos hsum]
    have hbody := body_eq_nil_iff hchars hlow
    rw [hframe]
    refine ⟨fun hkind htwo => ?_, fun hother => ?_⟩
    · rw [exec_stopAll_broadcast _ (s := closed) rfl, hkind, hbody.2 htwo]
      rfl
    · have hno : ¬ (chars.getD 1 0 = 0x20 ∧ (chars.drop 3).dropLast = []) := by
        rw [hbody]; tauto
      rw [acceptFrame_broadcast_other rfl hno, restartSupervision_eq]
      rfl

end Sys2Proof.Proofs
end

section
/-! The reply transmitter (R160, R163, R164, R182): its start, its end, and the characters of a reply. -/

namespace Sys2Proof.Proofs

open Sys2Proof Sys2Proof.Machine Sys2Proof.Claims Sys2Proof.Safety

/-! ## A reset in the words of the statements -/

theorem unitAddressOf_eq (ads1 ads0 : Bool) :
    unitAddressOf ads1 ads0 = 0x30 + (if ads1 then 2 else 0) + (if ads0 then 1 else 0) := by
  cases ads1 <;> cases ads0 <;> rfl

theorem burnerReset_eq (k : KnobPos) : BurnerRec.reset k =
    { state := if k = .opened then .waitClose else .off, knob := k, debounce := none, attempts := 0,
      losses := 0, attemptTimer := none, proving := none, gap := none, flameLoss := .stopped,
      permit := true } := by
  cases k <;> rfl

/-- A reset sets every block to the last columns of its tables (R175, R182). -/
theorem resetBlocks_eq_afterReset (cause : ResetCause) (s : State) :
    resetBlocks cause s = afterReset cause s.pins s.drawn s.pending := by
  simp only [resetBlocks, Lnk.reset, Bsv.reset, unitAddressOf_eq, burnerReset_eq]
  rfl

/-! ## The transmitter -/

/-- The delay has run out: 11 bit times a character at 19,200 bit/s, rounded up (R163, log 7). -/
theorem startReply_delayed {s : State} {n : Nat} {r : Reply} (hs : s.lnk.transmitter = .delay n)
    (hr : s.lnk.reply = some r) : startReply s = s.withLnk { s.lnk with
      transmitter := .sending (((r.body.length + 6) * 11000 + 19199) / 19200) } := by
  have hms : sendingMs r = ((r.body.length + 6) * 11000 + 19199) / 19200 := by
    rw [sendingMs_eq]; omega
  simp only [startReply, hs, hr, hms]

theorem acceptedRestart_iff (s : State) : acceptedRestart s = true ↔
    (∃ r, s.lnk.reply = some r ∧ r.kind = 0x88) ∧ s.cfg.part ≠ .locked := by
  simp [acceptedRestart, Option.any_eq_true]

/-- The link after the end of a reply: both slots and the transmitter are empty (R160, R163). -/
def freed (s : State) : State := s.withLnk { s.lnk with
  executing := none, waiting := none, transmitter := .idle, reply := none }

section

variable {s : State} {n : Nat} (hs : s.lnk.transmitter = .sending n)
include hs

/-- After the reply to an accepted RESTART the part restarts (R182). -/
theorem endReply_restarts (hr : acceptedRestart s = true) : endReply s = requestedRestart s := by
  simp only [endReply, hs, hr, if_true]

theorem endReply_empty (hr : ¬ acceptedRestart s = true) (hw : s.lnk.waiting = none) :
    endReply s = freed s := by
  simp only [endReply, hs, if_neg hr, takeWaiting, State.withLnk_lnk, hw, freed]

/-- The waiting request is taken at the freed link (R160). -/
theorem endReply_takes (hr : ¬ acceptedRestart s = true) {r : Request} (hw : s.lnk.waiting = some r) :
    endReply s = takeRequest r (freed s) := by
  simp only [endReply, hs, if_neg hr, takeWaiting, State.withLnk_lnk, hw, freed, State.withLnk_withLnk]

end

/-! ## The characters of a reply (R164, Table 8-6) -/

/-- The characters of a reply that its SUM closes. -/
def summed (r : Reply) : List Byte :=
  byteOf (r.body.length + 3) :: r.kind :: r.tag :: r.linkStatus :: r.body

theorem replyChars_eq (r : Reply) : replyChars r = summed r ++ [-(sum8 (summed r))] := rfl

theorem replyChars_sum (r : Reply) : ((replyChars r).map (fun b => b.toNat)).sum % 256 = 0 :=
  (sum8_eq_zero_iff _).1 (sum8_append_neg (summed r))

theorem replyChars_length (r : Reply) : (replyChars r).length = r.body.length + 5 := by
  simp [replyChars_eq, summed]

theorem replyChars_len {r : Reply} (hr : r.body.length ≤ 38) :
    ((replyChars r).headD 0).toNat = r.body.length + 3 := by
  have hlen : ((replyChars r).headD 0).toNat = (r.body.length + 3) % 256 := byteOf_toNat _
  omega

theorem replyChars_drop_one (r : Reply) : (replyChars r).drop 1 =
    [r.kind, r.tag, r.linkStatus] ++ r.body ++ [(replyChars r).getLastD 0] := by
  rw [replyChars_eq, List.getLastD_concat]; rfl

/-- While a reply is sent, TXD carries its frame (R164). -/
theorem transmitted_sending {s : State} {n : Nat} {r : Reply} (hs : s.lnk.transmitter = .sending n)
    (hr : s.lnk.reply = some r) : transmitted s = replyFrame r := by
  simp only [transmitted, hs, hr]

/-- Settles O7: the end of a reply by whether it accepted a RESTART and whether a request waits, the
characters by the lemmas on replyChars. -/
theorem repliesAreSpelledAndSent : Obligations.RepliesAreSpelledAndSent := by
  refine ⟨⟨⟨fun s n r hs hr => congrArg _ (startReply_delayed hs hr), fun s n hs hkept => ?_⟩,
    fun s n r hs hr hkind hpart => ?_⟩, fun r hr => ?_⟩
  · have hno : ¬ acceptedRestart s = true := by
      rw [acceptedRestart_iff]
      rintro ⟨⟨r, hr, hkind⟩, hpart⟩
      exact hpart (hkept r hr hkind)
    refine ⟨fun hw => congrArg _ (endReply_empty hs hno hw), fun r hw => ?_⟩
    have htake : exec .replySent s = .next (takeRequest r (freed s)) :=
      congrArg _ (endReply_takes hs hno hw)
    refine ⟨htake, fun c hc hb hheard => ?_, _, htake, ?_⟩
    · have harrive := exec_eq_take (s := freed s) hc hb rfl
      rw [show heard (freed s) = freed s from hheard] at harrive
      exact htake.trans harrive.symm
    · cases ha : r.addr with
      | unit =>
        obtain ⟨hexecuting, hwaiting, hdelayed⟩ := takeRequest_awaitsReply ha (freed s)
        exact ⟨hwaiting, fun _ => ⟨hexecuting, hdelayed⟩, nofun⟩
      | broadcast =>
        rw [takeRequest_broadcast_lnk ha (freed s)]
        exact ⟨rfl, nofun, fun _ => ⟨rfl, rfl⟩⟩
  · have hrestart := (acceptedRestart_iff s).2 ⟨⟨r, hr, hkind⟩, hpart⟩
    exact congrArg _ ((endReply_restarts hs hrestart).trans (resetBlocks_eq_afterReset .requested s))
  · exact ⟨fun s n hs hsent => transmitted_sending hs hsent, replyChars_sum r, replyChars_length r,
      replyChars_len hr, replyChars_drop_one r⟩

end Sys2Proof.Proofs
end

section
/-! A request frame character by character (R155 to R160, Table 8-5). -/

namespace Sys2Proof.Proofs

open Sys2Proof Sys2Proof.Machine Sys2Proof.Claims

/-! ## The characters of a request (Table 8-5) -/

section

variable (kind tag : Byte) (body : List Byte)

theorem requestChars_length : (requestChars kind tag body).length = body.length + 4 := by
  simp [requestChars]

theorem requestChars_sum : sum8 (requestChars kind tag body) = 0 := sum8_append_neg _

theorem requestChars_body : ((requestChars kind tag body).drop 3).dropLast = body := by
  simp [requestChars]

theorem requestChars_len {body : List Byte} (hb : body.length ≤ 24) :
    num8 (requestChars kind tag body) 0 = body.length + 2 := by
  have hlen : num8 (requestChars kind tag body) 0 = (body.length + 2) % 256 := byteOf_toNat _
  omega

end

/-- LEN is known from the first character on. -/
theorem num8_zero_append_singleton (got : List Byte) (d : Byte) (rest : List Byte) :
    num8 (got ++ d :: rest) 0 = num8 (got ++ [d]) 0 := by
  cases got <;> rfl

/-! ## The link while the frame is assembled -/

/-- The part has received the data characters of a frame, whose address character has cut off the frame
that was being assembled (R156, R158). -/
def receiving (a : FrameAddr) (got : List Byte) (s : State) : State := s.withLnk { s.lnk with
  assembler := .assembling a got, gap := some 0, dropped := s.lnk.dropped || assembling s }

/-- That frame has ended (R157). -/
def received (s : State) : State := s.withLnk { s.lnk with
  assembler := .idle, gap := none, dropped := s.lnk.dropped || assembling s }

/-- The address character of a request's frame starts that frame. -/
theorem addressChar_addressOf {a : FrameAddr} {s : State}
    (ha : a = .broadcast → s.lnk.unitAddress ≠ 0x3F) :
    addressChar (addressOf s a) s = receiving a [] s := by
  rw [addressChar_eq]
  cases a with
  | unit => exact congrArg s.withLnk (if_pos rfl)
  | broadcast => exact congrArg s.withLnk ((if_neg (ha rfl).symm).trans (if_pos rfl))

section

variable {kind tag d : Byte} {body got : List Byte} (hb : body.length ≤ 24) (a : FrameAddr) (s : State)
include hb

/-- A character of a request's frame before its SUM. -/
theorem dataChar_receiving {e : Byte} {rest : List Byte}
    (hframe : got ++ d :: e :: rest = requestChars kind tag body) :
    dataChar d (receiving a got s) = receiving a (got ++ [d]) s := by
  have hlen := requestChars_len kind tag hb
  have hcount := requestChars_length kind tag body
  rw [← hframe, num8_zero_append_singleton] at hlen
  rw [← hframe] at hcount
  simp only [List.length_append, List.length_cons] at hcount
  refine dataChar_grows rfl d ?_ ?_
  · omega
  · simp only [List.length_append, List.length_cons, List.length_nil]; omega

/-- The SUM of a request's frame: the request arrives (R159). -/
theorem dataChar_last (hframe : got ++ [d] = requestChars kind tag body) :
    dataChar d (receiving a got s) = acceptFrame ⟨a, kind, tag, body⟩ (received s) := by
  have hlen := requestChars_len kind tag hb
  have hcount := requestChars_length kind tag body
  have hends := dataChar_ends (s := receiving a got s) (a := a) rfl d (by rw [hframe]; omega)
    (by rw [hframe]; omega)
  rw [hends, hframe, completeFrame_of_sum (requestChars_sum kind tag body), requestChars_body]
  rfl

/-- A request command ends the frame as its SUM does (log 1). -/
theorem arriveRequest_eq :
    arriveRequest a kind tag body s = acceptFrame ⟨a, kind, tag, body⟩ (received s) := by
  have hfits : ¬ 24 < body.length := by omega
  unfold arriveRequest received
  cases hs : assembling s with
  | true => simp only [abandonFrame_of_assembling hs, if_neg hfits, Bool.or_true]; rfl
  | false => simp only [abandonFrame_of_not_assembling hs, if_neg hfits, Bool.or_false]

end

/-! ## Runs -/

/-- A run takes the command at the front of the queue first. -/
theorem run_front {c : Instr} {s t : State} {rest : List Instr}
    (hc : exec c (s.withPending rest) = .next t) (k : Nat) :
    Host.Core.run Sys2Proof.core (k + 1) (s.withPending (c :: rest)) =
      Host.Core.run Sys2Proof.core k t := by
  have hstep : Sys2Proof.core.step (s.withPending (c :: rest)) = .next t :=
    (stepRunsFrontCommand c s rest).trans hc
  simp only [Host.Core.run, hstep]

/-- The data characters that are still missing complete the frame, by induction on them. -/
theorem run_dataCharacters {kind tag : Byte} {body : List Byte} (hb : body.length ≤ 24)
    (a : FrameAddr) (s : State) (rest : List Instr) (d : Byte) (chars got : List Byte)
    (hframe : got ++ d :: chars = requestChars kind tag body) :
    Host.Core.run Sys2Proof.core (chars.length + 1)
        ((receiving a got s).withPending ((d :: chars).map .dataCharacter ++ rest)) =
      .next (acceptFrame ⟨a, kind, tag, body⟩ (received (s.withPending rest))) := by
  induction chars generalizing d got with
  | nil =>
    exact run_front (congrArg _ (dataChar_last hb a (s.withPending rest) hframe)) 0
  | cons e chars ih =>
    let queue := (e :: chars).map Instr.dataCharacter ++ rest
    have hgrows : exec (.dataCharacter d) ((receiving a got s).withPending queue) =
        .next ((receiving a (got ++ [d]) s).withPending queue) :=
      congrArg _ (dataChar_receiving hb a (s.withPending queue) hframe)
    exact (run_front hgrows _).trans (ih e (got ++ [d]) (by rw [← hframe]; simp))

/-- Settles O9: both runs end at the acceptance of the frame. -/
theorem charactersSpellTheRequest : Obligations.CharactersSpellTheRequest := by
  intro c r s rest hc hb ha
  obtain ⟨a, kind, tag, body⟩ := r
  obtain ⟨d, chars, hchars⟩ : ∃ d chars, requestChars kind tag body = d :: chars := ⟨_, _, rfl⟩
  have hcommand : exec c (s.withPending rest) =
      .next (acceptFrame ⟨a, kind, tag, body⟩ (received (s.withPending rest))) := by
    rw [exec_eq_arrive _ hc, arriveRequest_eq hb]
  have haddress (queue : List Instr) : exec (.addressCharacter (addressOf s a)) (s.withPending queue) =
      .next ((receiving a [] s).withPending queue) :=
    congrArg _ (addressChar_addressOf (s := s.withPending queue) ha)
  rw [run_front hcommand 0]
  simp only [characters, hchars, List.cons_append, List.length_cons, List.length_map, List.map_cons]
  rw [run_front (haddress _)]
  exact run_dataCharacters hb a s rest d chars [] hchars.symm

end Sys2Proof.Proofs
end

section
/-! The generic checks (R167): the codes and the body lengths of the kinds, and each refusal in order. -/

namespace Sys2Proof.Proofs

open Sys2Proof Sys2Proof.Machine Sys2Proof.Claims

/-! ## The kinds (Table 8-7) -/

/-- The KIND code of a kind. -/
def kindCode : ReqKind → Nat
  | .status => 0x01 | .readConfig => 0x02 | .setBudget => 0x03 | .setHeater => 0x04
  | .setOvenTuning => 0x05 | .setLink => 0x06 | .closeConfig => 0x07 | .restart => 0x08
  | .planBegin => 0x10 | .planStage => 0x11 | .planCommit => 0x12
  | .start => 0x18 | .pause => 0x19 | .resume => 0x1A | .skip => 0x1B | .stop => 0x1C
  | .clear => 0x1D | .adjust => 0x1E | .quickLevel => 0x1F | .stopAll => 0x20
  | .readChannel => 0x28 | .readStage => 0x29 | .readFrame => 0x2A
  | .fetchNotices => 0x30 | .armAttention => 0x31

/-- A KIND character names the kind that has its code, and no other. -/
theorem eq_kindCode_of_reqKindOf {n : Nat} {k : ReqKind} (h : reqKindOf n = some k) :
    n = kindCode k := by
  unfold reqKindOf at h
  split at h <;> cases h <;> rfl

/-- The lengths of Table 8-7 are those the part admits. -/
theorem mem_bodyLengths_kindCode (k : ReqKind) (m : Nat) :
    m ∈ bodyLengths (kindCode k) ↔ lengthFits k m = true := by
  cases k
  case planStage =>
    simp only [bodyLengths, kindCode, lengthFits, decide_eq_true_eq]
    simp
    omega
  all_goals simp [bodyLengths, kindCode, lengthFits]

/-- A code outside Table 8-7 has no body length. -/
theorem bodyLengths_of_unknown {n : Nat} (h : reqKindOf n = none) : bodyLengths n = [] := by
  unfold reqKindOf at h
  split at h
  case h_26 => simp_all [bodyLengths]
  all_goals cases h

theorem bodyLengths_kindCode_ne_nil (k : ReqKind) : bodyLengths (kindCode k) ≠ [] := by
  cases k <;> decide

theorem isConfigKind_iff (k : ReqKind) :
    isConfigKind k = true ↔ 3 ≤ kindCode k ∧ kindCode k ≤ 7 := by
  cases k <;> decide

theorem isOperatingOnly_eq (k : ReqKind) (body : List Byte)
    (hk : kindCode k = 0x10 ∨ kindCode k = 0x18 ∨ kindCode k = 0x1F) :
    isOperatingOnly k body = decide (4 ≤ num8 body 0 ∧ num8 body 0 ≤ 7) := by
  cases k
  case planBegin | start | quickLevel => rfl
  all_goals simp [kindCode] at hk

/-! ## The checks in order -/

section

variable {kind : Byte} {body : List Byte} {s : State} {k : ReqKind}

/-- Check 1: a KIND outside Table 8-7. -/
theorem genericCheck_unknown (hk : reqKindOf kind.toNat = none) :
    genericCheck kind body s = .error (.unknownKind, 0) := by
  simp only [genericCheck, hk]

variable (hk : reqKindOf kind.toNat = some k)
include hk

/-- Check 2: a body length that the table does not give. -/
theorem genericCheck_badLength (hl : ¬ lengthFits k body.length = true) :
    genericCheck kind body s = .error (.badLength, body.length) := by
  simp [genericCheck, hk, hl]

variable (hl : lengthFits k body.length = true)
include hl

/-- Check 3: the part is LOCKED. -/
theorem genericCheck_locked (hp : s.cfg.part = .locked) (hn : k ≠ .status) :
    genericCheck kind body s = .error (.locked, 0) := by
  simp [genericCheck, hk, hl, hp, hn]

/-- Check 4: a configuration kind while OPERATING. -/
theorem genericCheck_operating (hp : s.cfg.part = .operating) (hc : isConfigKind k = true) :
    genericCheck kind body s = .error (.wrongState, 1) := by
  simp [genericCheck, hk, hl, hp, hc, partCode]

/-- Check 5: an operating-only kind while CONFIGURING. -/
theorem genericCheck_configuring (hp : s.cfg.part = .configuring) (ho : isOperatingOnly k body = true) :
    genericCheck kind body s = .error (.notConfigured, 0) := by
  simp [genericCheck, hk, hl, hp, ho]

end

/-- A unit request that a generic check refuses at the free part. -/
theorem exec_generic_refused {c : Instr} {r : Request} {s : State} {cause : Cause} {detail : Nat}
    (hc : requestFrame c = some r) (ha : r.addr = .unit) (hs : free s) (hb : r.body.length ≤ 24)
    (hcheck : genericCheck r.kind r.body (heard s) = .error (cause, detail)) :
    exec c s = .next (refuses r cause detail (heard s)) := by
  have hdecided : decideRequest r (heard s) = refused cause detail (heard s) := by
    simp only [decideRequest, hcheck]
  obtain ⟨a, kind, tag, body⟩ := r
  obtain rfl : a = .unit := ha
  exact exec_refused hc hb hs hdecided

/-- Settles O10: each check by the lemma on genericCheck that names it. -/
theorem genericChecksRefuse : Obligations.GenericChecksRefuse := by
  intro c r s hc ha hs hb kind lengths
  have hrefused {cause : Cause} {detail : Nat}
      (hcheck : genericCheck r.kind r.body (heard s) = .error (cause, detail)) :
      exec c s = .next (refuses r cause detail (heard s)) :=
    exec_generic_refused hc ha hs hb hcheck
  cases hk : reqKindOf r.kind.toNat with
  | none =>
    have hnil : lengths = [] := bodyLengths_of_unknown hk
    rw [hnil]
    exact ⟨fun _ => hrefused (genericCheck_unknown hk), fun h => absurd rfl h, nofun⟩
  | some k =>
    have hcode : kind = kindCode k := eq_kindCode_of_reqKindOf hk
    have hlengths : lengths = bodyLengths (kindCode k) := congrArg bodyLengths hcode
    rw [hlengths, mem_bodyLengths_kindCode, hcode]
    refine ⟨fun hnil => absurd hnil (bodyLengths_kindCode_ne_nil k), fun _ hl =>
      hrefused (genericCheck_badLength hk hl), fun hl => ⟨fun hp hn => ?_, fun hp hlow hhigh => ?_,
        fun hp hkind hlow hhigh => ?_⟩⟩
    · exact hrefused (genericCheck_locked hk hl hp (by rintro rfl; exact hn rfl))
    · exact hrefused (genericCheck_operating hk hl hp ((isConfigKind_iff k).2 ⟨hlow, hhigh⟩))
    · refine hrefused (genericCheck_configuring hk hl hp ?_)
      rw [isOperatingOnly_eq k r.body hkind, num8_zero_eq_headD]
      exact decide_eq_true ⟨hlow, hhigh⟩

end Sys2Proof.Proofs
end

section
/-! STATUS, READ CONFIG and the link status (R166, R180, R181). -/

namespace Sys2Proof.Proofs

open Sys2Proof Sys2Proof.Machine Sys2Proof.Claims

/-- Bit i of the link status is the i-th flag of Table 8-2, and bit 7 is 0 (Table 8-6). -/
theorem linkStatus_getLsbD (s : State) {i : Nat} (hi : i < 8) : (linkStatus s).getLsbD i =
    [s.cfg.restarted, s.lnk.dropped, decide (s.ntq.queue ≠ []), s.lnk.linkLostSeen,
      decide (s.cfg.part = .configuring), decide (s.cfg.part = .locked), s.out.supplyOff].getD i
        false :=
  maskByte_getLsbD _ hi

theorem exec_status (tag : Byte) {s : State} (hs : free s) :
    exec (.status tag) s =
      .next (accepts ⟨.unit, 0x01, tag, []⟩ (statusReply (heard s)) (heard s)) := by
  rw [← answer_accept]
  exact exec_passed (k := .status) rfl (by simp) hs rfl rfl (.inr rfl) (fun _ => rfl) (fun _ => rfl)

theorem exec_readConfig (tag : Byte) {s : State} (hs : free s) (hp : s.cfg.part ≠ .locked) :
    exec (.readConfig tag) s =
      .next (accepts ⟨.unit, 0x02, tag, []⟩ (configReply (heard s)) (heard s)) := by
  rw [← answer_accept]
  exact exec_passed (k := .readConfig) rfl (by simp) hs rfl rfl (.inl hp) (fun _ => rfl)
    (fun _ => rfl)

/-- Settles O11: the flags by linkStatus_getLsbD, the two replies by what their owner reads. -/
theorem statusAndConfigAreReported : Obligations.StatusAndConfigAreReported := by
  refine ⟨fun s => ?_, fun tag s hs => ?_, fun tag s hs hp => ?_⟩
  · have hbit {i : Nat} (hi : i < 8) := linkStatus_getLsbD s hi
    have hnotice : decide (s.ntq.queue ≠ []) = !s.ntq.queue.isEmpty := by
      cases s.ntq.queue <;> rfl
    exact ⟨hbit (by decide), hbit (by decide), (hbit (by decide)).trans hnotice, hbit (by decide),
      hbit (by decide), hbit (by decide), hbit (by decide), hbit (by decide)⟩
  · simp only [exec_status tag hs, statusReply, byteOf_flag]; rfl
  · simp only [exec_readConfig tag hs hp, configReply, heaterCfgChars, byteOf_flag]; rfl

end Sys2Proof.Proofs
end

section
/-! The two resets (R175, R182), and the invariants after them. -/

namespace Sys2Proof.Proofs

open Sys2Proof Sys2Proof.Machine Sys2Proof.Claims Sys2Proof.Safety

/-- The part with its input lines, its count and its queue as given: what a reset reads and keeps
(R175, log 19). -/
def beforeReset (p : Pins) (drawn : Nat) (pending : List Instr) : State :=
  { State.reset with pins := p, drawn := drawn, pending := pending }

theorem afterReset_eq_resetBlocks (cause : ResetCause) (p : Pins) (drawn : Nat)
    (pending : List Instr) :
    afterReset cause p drawn pending = resetBlocks cause (beforeReset p drawn pending) :=
  (resetBlocks_eq_afterReset cause (beforeReset p drawn pending)).symm

/-- The notice queue is empty after a reset, and ATTN is released (Table 7-2). -/
theorem resetBlocks_notices (cause : ResetCause) (s : State) : NoticeInv (resetBlocks cause s) where
  bound := Nat.zero_le _
  attn := nofun

/-- The probe's buffer is empty after a reset, and its error counter 0 (Table 4-1). -/
theorem resetBlocks_probe (cause : ResetCause) (s : State) : ProbeInv (resetBlocks cause s) where
  counter := Nat.zero_le _
  fault := nofun
  buffer := Nat.zero_le _
  readings := nofun

/-- No reset leaves the part LOCKED (Table 9-1). -/
theorem resetBlocks_locked (cause : ResetCause) (s : State) : LockedInv (resetBlocks cause s) :=
  lockedInv_of_awake nofun

/-- Settles O4: a power-on reset reads the lines and sets the blocks; State.reset is what it leaves of
itself. -/
theorem powerOnResetSetsEveryBlock : Obligations.PowerOnResetSetsEveryBlock := by
  refine ⟨fun p s => ?_, ?_⟩
  · exact congrArg _ (resetBlocks_eq_afterReset .powerOn (withResetPins p s))
  · have hfixed : State.reset = resetBlocks .powerOn State.reset := rfl
    exact hfixed.trans (resetBlocks_eq_afterReset .powerOn State.reset)

/-- Settles O58: each invariant holds of what a reset leaves. -/
theorem invariantsHoldAfterAReset : Obligations.InvariantsHoldAfterAReset := by
  intro cause p drawn pending s
  have hs : s = resetBlocks cause (beforeReset p drawn pending) := afterReset_eq_resetBlocks _ _ _ _
  rw [hs]
  exact ⟨resetBlocks_pool _ _, resetBlocks_time _ _, resetBlocks_notices _ _, resetBlocks_probe _ _,
    resetBlocks_burners _ _, resetBlocks_power _ _, resetBlocks_locked _ _⟩

end Sys2Proof.Proofs
end

section
/-! SET BUDGET, SET OVEN TUNING, SET LINK and SET HEATER (R176, R177). -/

namespace Sys2Proof.Proofs

open Sys2Proof Sys2Proof.Machine Sys2Proof.Claims

/-! ## The configuration kinds -/

theorem isOperatingOnly_of_configKind {k : ReqKind} (hk : isConfigKind k = true) (body : List Byte) :
    isOperatingOnly k body = false :=
  operatingOnly_eq_false (by rintro (rfl | rfl | rfl) <;> exact absurd hk Bool.false_ne_true)

/-- While CONFIGURING, a configuration kind of the right length passes the generic checks (R167). -/
theorem exec_configKind {i : Instr} {kind tag : Byte} {body : List Byte} {s : State} {k : ReqKind}
    (hs : free s) (hp : s.cfg.part = .configuring)
    (hi : requestFrame i = some ⟨.unit, kind, tag, body⟩) (hb : body.length ≤ 24)
    (hkind : reqKindOf kind.toNat = some k) (hl : lengthFits k body.length = true)
    (hk : isConfigKind k = true) :
    exec i s = .next (answerRequest ⟨.unit, kind, tag, body⟩ (ownerActs k body (heard s))) :=
  exec_passed hi hb hs hkind hl (.inl (by rw [hp]; nofun)) (by rw [hp]; nofun)
    fun _ => isOperatingOnly_of_configKind hk body

section

variable {s : State} (hs : free s) (hp : s.cfg.part = .configuring) (tag : Byte)

include hs hp

theorem exec_setBudget (w : BitVec 16) : exec (.setBudget tag w) s =
    .next (answerRequest ⟨.unit, 0x03, tag, be16 w.toNat⟩ (ownSetBudget w.toNat (heard s))) := by
  have hread : num16 (be16 w.toNat) 0 = w.toNat := num16_be16 w.isLt [] []
  rw [exec_configKind (k := .setBudget) hs hp rfl (by simp) rfl rfl rfl, ownerActs, hread]

theorem exec_setOvenTuning (band limit : Byte) : exec (.setOvenTuning tag band limit) s =
    .next (answerRequest ⟨.unit, 0x05, tag, [band, limit]⟩
      (ownSetOvenTuning band.toNat limit.toNat (heard s))) :=
  exec_configKind (k := .setOvenTuning) hs hp rfl (by simp) rfl rfl rfl

theorem exec_setLink (sup steps : Byte) : exec (.setLink tag sup steps) s =
    .next (answerRequest ⟨.unit, 0x06, tag, [sup, steps]⟩
      (ownSetLink sup.toNat steps.toNat (heard s))) :=
  exec_configKind (k := .setLink) hs hp rfl (by simp) rfl rfl rfl

theorem exec_setHeater (code inst rank offset : Byte) (w : BitVec 16) :
    exec (.setHeater tag code inst w rank offset) s =
      .next (answerRequest ⟨.unit, 0x04, tag, [code, inst] ++ be16 w.toNat ++ [rank, offset]⟩
        (ownSetHeater code.toNat inst.toNat w.toNat rank.toNat offset.toNat (heard s))) := by
  have hread : num16 ([code, inst] ++ be16 w.toNat ++ [rank, offset]) 2 = w.toNat :=
    num16_be16 w.isLt [code, inst] [rank, offset]
  rw [exec_configKind (k := .setHeater) hs hp rfl (by simp) rfl (by simp [lengthFits]) rfl, ownerActs,
    hread]
  rfl

theorem exec_closeConfig : exec (.closeConfig tag) s =
    .next (answerRequest ⟨.unit, 0x07, tag, []⟩ (ownCloseConfig (heard s))) :=
  exec_configKind (k := .closeConfig) hs hp rfl (by simp) rfl rfl rfl

end

/-! ## The checks in body order -/

theorem ownSetBudget_eq (n : Nat) (s : State) : ownSetBudget n s =
    if 1000 ≤ n ∧ n ≤ 15000 ∧ n % 10 = 0 then
      accepted (be16 (s.cfg.budget.getD 0)) (s.withCfg { s.cfg with budget := some n })
    else refused .outOfRange 1 s := by
  unfold ownSetBudget
  by_cases hn : 1000 ≤ n ∧ n ≤ 15000 ∧ n % 10 = 0
  · rw [if_pos hn, if_neg (by omega)]
  · rw [if_neg hn, if_pos (by omega)]

theorem ownSetOvenTuning_eq (band limit : Nat) (s : State) : ownSetOvenTuning band limit s =
    if ¬ (4 ≤ band ∧ band ≤ 32) then refused .outOfRange 1 s
    else if ¬ (10 ≤ limit ∧ limit ≤ 40) then refused .outOfRange 2 s
    else accepted [byteOf s.cfg.band, byteOf s.cfg.overshoot]
      (s.withCfg { s.cfg with band := band, overshoot := limit }) := by
  simp only [ownSetOvenTuning, not_and_or, not_le]

theorem ownSetLink_eq (sup steps : Nat) (s : State) : ownSetLink sup steps s =
    if ¬ (4 ≤ sup ∧ sup ≤ 30) then refused .outOfRange 1 s
    else if 20 < steps then refused .outOfRange 2 s
    else accepted [byteOf s.cfg.supervision, byteOf (s.cfg.spacing / 100)]
      (s.withCfg { s.cfg with supervision := sup, spacing := 100 * steps }) := by
  simp only [ownSetLink, not_and_or, not_le]

theorem ownSetHeater_unknown {code : Nat} (hc : 6 ≤ code) (inst w rank offset : Nat) (s : State) :
    ownSetHeater code inst w rank offset s = refused .outOfRange 1 s := by
  rw [ownSetHeater, heaterOf_eq_none hc]

/-- The range checks of SET HEATER: with installed 0 none is made past the second (R177). -/
theorem ownSetHeater_code (h : Heater) (inst w rank offset : Nat) (s : State) :
    let before := byteOf (heaterCode h) :: heaterCfgChars (s.install h)
    let write (x : HeaterCfg) : State := s.withCfg { s.cfg with heaters := s.cfg.heaters.set h x }
    ownSetHeater (heaterCode h) inst w rank offset s =
      if inst = 0 then accepted before (write ⟨false, 0, 0, 0⟩)
      else if inst ≠ 1 then refused .outOfRange 2 s
      else if ¬ (100 ≤ w ∧ w ≤ 4000 ∧ w % 10 = 0) then refused .outOfRange 3 s
      else if ¬ (1 ≤ rank ∧ rank ≤ 6) then refused .outOfRange 4 s
      else if ¬ offset ≤ 31 then refused .outOfRange 5 s
      else accepted before (write ⟨true, w, rank, offset⟩) := by
  intro before write
  rw [ownSetHeater, heaterOf_code]
  match inst with
  | 0 => rfl
  | 1 => simp [heaterRecord, -not_and, not_and_or, before, write]
  | n + 2 => simp

/-- A chain of checks is answered check by check. -/
theorem answer_ite (r : Request) (p : Prop) [Decidable p] (a b : Answered) :
    answerRequest r (if p then a else b) = if p then answerRequest r a else answerRequest r b :=
  apply_ite _ _ _ _

/-- Settles O12: each request reaches its owner with its operands read back, and the owner's checks are
answered one by one. -/
theorem settingsAreCheckedAndWritten : Obligations.SettingsAreCheckedAndWritten := by
  refine ⟨fun tag s hs hp => ⟨fun w => ?_, fun band limit => ?_, fun sup steps => ?_⟩,
    fun tag code inst rank offset w s hs hp => ?_⟩
  · simp only [exec_setBudget hs hp, ownSetBudget_eq, answer_ite, answer_accepted, answer_refused]
    rfl
  · simp only [exec_setOvenTuning hs hp, ownSetOvenTuning_eq, answer_ite, answer_accepted,
      answer_refused]
    rfl
  · simp only [exec_setLink hs hp, ownSetLink_eq, answer_ite, answer_accepted, answer_refused]
    rfl
  · intro r
    rw [exec_setHeater hs hp]
    refine ⟨fun hc => by rw [ownSetHeater_unknown hc, answer_refused], fun h hc => ?_⟩
    simp only [hc, ownSetHeater_code, answer_ite, answer_accepted, answer_refused, heaterCfgChars,
      byteOf_flag]
    rfl

end Sys2Proof.Proofs
end

section
/-! CLOSE CONFIG (R178, R179). -/

namespace Sys2Proof.Proofs

open Sys2Proof Sys2Proof.Machine Sys2Proof.Claims

/-! ## The checks -/

theorem mem_installedHeaters {s : State} {h : Heater} :
    h ∈ installedHeaters s ↔ (s.install h).installed = true := by
  simp [installedHeaters, mem_allHeaters]

theorem installedHeaters_eq_nil_iff (s : State) :
    installedHeaters s = [] ↔ ∀ h, (s.install h).installed = false := by
  simp [List.eq_nil_iff_forall_not_mem, mem_installedHeaters]

/-- The ranks of the installed heaters are distinct and in range exactly when they are 1 to n (R178). -/
theorem ranksComplete_iff (s : State) :
    let ranks := (installedHeaters s).map (fun h => (s.install h).rank)
    (ranks.Nodup ∧ ∀ r ∈ ranks, 1 ≤ r ∧ r ≤ (installedHeaters s).length) ↔ ranksComplete s := by
  intro ranks
  have hnodup : (installedHeaters s).Nodup := nodup_allHeaters.filter _
  have hdistinct : ranks.Nodup ↔ ∀ h g, (s.install h).installed = true →
      (s.install g).installed = true → (s.install h).rank = (s.install g).rank → h = g := by
    rw [List.nodup_map_iff_inj_on hnodup]
    simp only [mem_installedHeaters]
    exact ⟨fun hinj h g hh hg => hinj h hh g hg, fun hinj h hh g hg => hinj h g hh hg⟩
  rw [ranksComplete, hdistinct, List.forall_mem_map]
  simp only [mem_installedHeaters]

theorem exists_overBudget_iff (s : State) (budget : Nat) :
    (∃ h ∈ installedHeaters s, budget < (s.install h).rating) ↔
      ∃ h, (s.install h).installed = true ∧ budget < (s.install h).rating := by
  simp only [mem_installedHeaters]

/-- Without a budget the first check fails (R178). -/
theorem closeProblem_unset {s : State} (hb : s.cfg.budget = none) : closeProblem s = some 1 := by
  simp only [closeProblem, hb]

/-- With a budget the other three checks are made in order, in the words of the statement (R178). -/
theorem closeProblem_set {s : State} {budget : Nat} (hb : s.cfg.budget = some budget) :
    ((∀ h, (s.install h).installed = false) → closeProblem s = some 2) ∧
    ((∃ h, (s.install h).installed = true) →
      (¬ ranksComplete s → closeProblem s = some 3) ∧
      (ranksComplete s →
        ((∃ h, (s.install h).installed = true ∧ budget < (s.install h).rating) →
          closeProblem s = some 4) ∧
        ((∀ h, (s.install h).installed = true → (s.install h).rating ≤ budget) →
          closeProblem s = none))) := by
  simp only [closeProblem, hb]
  refine ⟨fun hnone => if_pos ((installedHeaters_eq_nil_iff s).2 hnone), fun ⟨h, hi⟩ => ?_⟩
  rw [if_neg (List.ne_nil_of_mem (mem_installedHeaters.2 hi))]
  refine ⟨fun hr => if_pos (mt (ranksComplete_iff s).1 hr), fun hr => ?_⟩
  rw [if_neg (not_not_intro ((ranksComplete_iff s).2 hr))]
  refine ⟨fun hover => if_pos ((exists_overBudget_iff s budget).2 hover), fun hfits => if_neg ?_⟩
  rw [exists_overBudget_iff]
  rintro ⟨g, hg, hover⟩
  exact absurd (hfits g hg) (by omega)

theorem ownCloseConfig_refused {s : State} {detail : Nat} (h : closeProblem s = some detail) :
    ownCloseConfig s = refused .outOfRange detail s := by
  simp only [ownCloseConfig, h]

/-! ## What its acceptance starts -/

/-- Settling touches OUT alone, and there each installed heater's record (R130). -/
theorem settleAll_eq (s : State) :
    settleAll s = s.withOut { s.out with heaters := settled s } := by
  have hheaters : (settleAll s).out.heaters = settled s := PerHeater.ext_get fun h => by
    rw [settled, PerHeater.get_map]
    exact settleAll_heaterOut h s
  have hothers : (settleAll s).withOut s.out = s :=
    foldl_keeps (g := fun t : State => t.withOut s.out)
      (fun t h => by unfold settle; split <;> rfl) _ s
  calc settleAll s
      = ((settleAll s).withOut s.out).withOut (settleAll s).out := rfl
    _ = s.withOut (settleAll s).out := by rw [hothers]
    _ = s.withOut { s.out with heaters := settled s } := by rw [settleAll_out, hheaters]

/-- CLOSE CONFIG past its checks (R179). -/
theorem ownCloseConfig_accepted {s : State} (h : closeProblem s = none) :
    ownCloseConfig s = accepted
      [heaterMask (fun h => (s.install h).installed),
        byteOf (maskOf (allChannels.map (fun c => (absentSet s).get c)))]
      { s with
        cfg := { s.cfg with part := .operating, absent := absentSet s }
        out := { s.out with contactor := .closed, heaters := settled s }
        pfs := { s.pfs with sched := .starting, slotTimer := some 500 }
        lnk := { s.lnk with supervision := some (1000 * s.cfg.supervision) } } := by
  simp only [ownCloseConfig, h, settleAll_eq]
  rfl

/-- Settles O13: the first failed check by closeProblem_unset and closeProblem_set, the acceptance by
ownCloseConfig_accepted. -/
theorem closeConfigChecksAndOpens : Obligations.CloseConfigChecksAndOpens := by
  refine ⟨fun tag s hs hp => ?_, fun tag s budget hs hp hb hsome hranks hfits => ?_⟩
  · intro r
    have hrefused {detail : Nat} (h : closeProblem (heard s) = some detail) :
        exec (.closeConfig tag) s = .next (refuses r .outOfRange detail (heard s)) := by
      rw [exec_closeConfig hs hp, ownCloseConfig_refused h, answer_refused]
    refine ⟨fun hb => hrefused (closeProblem_unset hb), fun budget hb => ?_⟩
    obtain ⟨hbare, hinstalled⟩ := closeProblem_set (s := heard s) hb
    refine ⟨fun hnone => hrefused (hbare hnone), fun hsome hranks => ?_, fun hsome hranks hover => ?_⟩
    · obtain ⟨hincomplete, -⟩ := hinstalled hsome
      exact hrefused (hincomplete hranks)
    · obtain ⟨-, hcomplete⟩ := hinstalled hsome
      obtain ⟨hrating, -⟩ := hcomplete hranks
      exact hrefused (hrating hover)
  · obtain ⟨-, hinstalled⟩ := closeProblem_set (s := heard s) hb
    obtain ⟨-, hcomplete⟩ := hinstalled hsome
    obtain ⟨-, hpasses⟩ := hcomplete hranks
    rw [exec_closeConfig hs hp, ownCloseConfig_accepted (hpasses hfits), answer_accepted]
    rfl

end Sys2Proof.Proofs
end
